-- ==== Sys2Proof/Word.lean ====
section
/-! DEFINITION. The word types of BTLS (rule R7: every value is unsigned, bit 0 is the least significant) and the one
widening the spec uses, `zext_32` of rule R8. -/

namespace Sys2Proof

/-- `u8` of rule R7. -/
abbrev Byte := BitVec 8

/-- `u16` of rule R7. -/
abbrev Half := BitVec 16

/-- `u32` of rule R7, the width of `RES` (rule R40). -/
abbrev Word := BitVec 32

/-- The 304-bit request word `REQ` of rule R70. -/
abbrev ReqWord := BitVec 304

/-- `zext_32` of rule R8: widen with zeros to the width of `RES`. -/
abbrev zext32 {n : Nat} (v : BitVec n) : Word := v.setWidth 32

/-- `bool(c)` of rule R8 as a 32-bit result: 1 when the condition holds, 0 otherwise. -/
abbrev boolWord (c : Bool) : Word := if c then 1 else 0

end Sys2Proof
end

