-- ==== Sys2Proof/Syntax.lean ====
section
/-! DEFINITION. The values BTLS handles (rule R9) and its 48 operations, one constructor per row of the opcode table
(rule R76). An operand stands in a constructor exactly when the "operands" column of rule R76 lists its field. -/

namespace Sys2Proof

/-- The two agents that issue requests (rule R230). -/
inductive Agent where
  | caller
  | driver
deriving DecidableEq, Repr, Inhabited

/-- The slot operand `s` of the `BT2.*` operations: `s0` is `BT2[0]` (`FDP.std`), `s1` is `BT2[1]` (`FDP.fast`)
(rule R23). -/
inductive Slot where
  | s0
  | s1
deriving DecidableEq, Repr, Inhabited

/-- `BTVal` of rule R9: a classic register pair BTR0/BTR1 (rule R21). -/
structure BTVal where
  btr0 : Byte
  btr1 : Byte
deriving DecidableEq, Repr, Inhabited

/-- `BT2Val` of rule R9: the six parameters in the source's constructor order (rule R24). -/
structure BT2Val where
  mode  : Byte
  presc : Word
  ts1   : Half
  ts2   : Half
  sjw   : Half
  tdo   : Half
deriving DecidableEq, Repr, Inhabited

/-- `Pair` of rule R9: the arbitration-phase and the data-phase value. -/
structure FdPair where
  std  : BT2Val
  fast : BT2Val
deriving DecidableEq, Repr, Inhabited

/-- The operations of rule R76, in the order of the opcode table. `idx` is a table index (a 4-bit field of the
request, rule R74; log entry 18); `a` and `b` are the tuple operands `A` and `B` of rule R75. -/
inductive Instr where
  | nop
  | btSet (btr0 btr1 : Byte)
  | btPreset (idx : Nat)
  | btPcia (idx : Nat)
  | btRd0
  | btRd1
  | btU16
  | btBrp
  | btTs1
  | btTs2
  | btTicks
  | btEq (btr0 btr1 : Byte)
  | bt2Set (slot : Slot) (a : BT2Val)
  | bt2Pcia (slot : Slot) (idx : Nat)
  | bt2Pifi (slot : Slot) (idx : Nat)
  | bt2Pfd (slot : Slot) (idx : Nat)
  | bt2Rdmode (slot : Slot)
  | bt2Rdpresc (slot : Slot)
  | bt2Rdts1 (slot : Slot)
  | bt2Rdts2 (slot : Slot)
  | bt2Rdsjw (slot : Slot)
  | bt2Rdtdo (slot : Slot)
  | bt2Ticks (slot : Slot)
  | bt2Eq (slot : Slot) (a : BT2Val)
  | fdpSet (a b : BT2Val)
  | fdpSingle (a : BT2Val)
  | fdpPcia (idx : Nat)
  | fdpPshort (idx : Nat)
  | fdpPlong (idx : Nat)
  | cstLd (opmode busload ctrlstat btr0 btr1 : Byte)
  | cst2Ld (opmode exmode busload ctrlstat : Byte) (a b : BT2Val)
  | lstLd (opmode busload ctrlstat : Byte) (linrate : Word)
  | cstDec
  | cstRdop
  | cstRdload
  | cstRdstat
  | cstGetbt
  | cst2Dec
  | cst2Rdop
  | cst2Rdex
  | cst2Rdload
  | cst2Rdstat
  | cst2Getbt
  | lstDec
  | lstRdop
  | lstRdload
  | lstRdstat
  | lstRdrate
deriving DecidableEq, Repr

end Sys2Proof
end

