-- ==== Sys2Proof/WellFormed.lean ====
section
/-! DEFINITION. Which instruction terms a request word can carry. Every operand but the table index has a type of
exactly its field's width; the index is a number, and the field that carries it has 4 bits (rules R72 and R74). -/

namespace Sys2Proof

/-- A table index that the 4-bit field `req.idx` can carry: 0 to 15 (rule R74). -/
def idxFits (idx : Nat) : Bool := decide (idx < 16)

/-- The well-formed instructions. No operand value is judged beyond the width of its field (rules R6 and R83): an index
past the end of its table is well formed, and faults when it runs (rule R224). -/
def WellFormed : Instr → Bool
  | .nop => true
  | .btSet _ _ => true
  | .btPreset idx => idxFits idx
  | .btPcia idx => idxFits idx
  | .btRd0 => true
  | .btRd1 => true
  | .btU16 => true
  | .btBrp => true
  | .btTs1 => true
  | .btTs2 => true
  | .btTicks => true
  | .btEq _ _ => true
  | .bt2Set _ _ => true
  | .bt2Pcia _ idx => idxFits idx
  | .bt2Pifi _ idx => idxFits idx
  | .bt2Pfd _ idx => idxFits idx
  | .bt2Rdmode _ => true
  | .bt2Rdpresc _ => true
  | .bt2Rdts1 _ => true
  | .bt2Rdts2 _ => true
  | .bt2Rdsjw _ => true
  | .bt2Rdtdo _ => true
  | .bt2Ticks _ => true
  | .bt2Eq _ _ => true
  | .fdpSet _ _ => true
  | .fdpSingle _ => true
  | .fdpPcia idx => idxFits idx
  | .fdpPshort idx => idxFits idx
  | .fdpPlong idx => idxFits idx
  | .cstLd _ _ _ _ _ => true
  | .cst2Ld _ _ _ _ _ _ => true
  | .lstLd _ _ _ _ => true
  | .cstDec => true
  | .cstRdop => true
  | .cstRdload => true
  | .cstRdstat => true
  | .cstGetbt => true
  | .cst2Dec => true
  | .cst2Rdop => true
  | .cst2Rdex => true
  | .cst2Rdload => true
  | .cst2Rdstat => true
  | .cst2Getbt => true
  | .lstDec => true
  | .lstRdop => true
  | .lstRdload => true
  | .lstRdstat => true
  | .lstRdrate => true

end Sys2Proof
end

