-- ==== Sys2Proof/Decode.lean ====
section
/-! DEFINITION. The request word (rules R70 to R75): its fields, the decoder (total, rejecting an unassigned opcode by
name: rules R77 and R83) and the encoder, written from the same two layout tables (rule R72 and rule R75). -/

namespace Sys2Proof

/-- The fields of `REQ` (rule R72), the three reserved bits among them (rule R84). -/
structure Fields where
  op       : Byte
  slot     : BitVec 1
  idx      : BitVec 4
  rsvd     : BitVec 3
  btr0     : Byte
  btr1     : Byte
  opmode   : Byte
  exmode   : Byte
  busload  : Byte
  ctrlstat : Byte
  linrate  : Word
  a        : BitVec 104
  b        : BitVec 104
deriving DecidableEq, Repr

/-- The fields of a request word, at the bits of rule R72. -/
def fieldsOf (w : ReqWord) : Fields where
  op       := w.extractLsb' 0 8
  slot     := w.extractLsb' 8 1
  idx      := w.extractLsb' 9 4
  rsvd     := w.extractLsb' 13 3
  btr0     := w.extractLsb' 16 8
  btr1     := w.extractLsb' 24 8
  opmode   := w.extractLsb' 32 8
  exmode   := w.extractLsb' 40 8
  busload  := w.extractLsb' 48 8
  ctrlstat := w.extractLsb' 56 8
  linrate  := w.extractLsb' 64 32
  a        := w.extractLsb' 96 104
  b        := w.extractLsb' 200 104

/-- The request word with the given fields, at the bits of rule R72 (highest field first). -/
def wordOf (f : Fields) : ReqWord :=
  f.b ++ f.a ++ f.linrate ++ f.ctrlstat ++ f.busload ++ f.exmode ++ f.opmode ++ f.btr1 ++ f.btr0 ++ f.rsvd ++ f.idx
    ++ f.slot ++ f.op

/-- The `BT2Val` in a tuple field (rule R75). -/
def tupleOf (t : BitVec 104) : BT2Val where
  mode  := t.extractLsb' 0 8
  presc := t.extractLsb' 8 32
  ts1   := t.extractLsb' 40 16
  ts2   := t.extractLsb' 56 16
  sjw   := t.extractLsb' 72 16
  tdo   := t.extractLsb' 88 16

/-- The tuple field that holds a `BT2Val` (rule R75, highest sub-field first). -/
def tupleBits (v : BT2Val) : BitVec 104 :=
  v.tdo ++ v.sjw ++ v.ts2 ++ v.ts1 ++ v.presc ++ v.mode

/-- The slot that the 1-bit field `req.slot` selects (rule R74: `BT2[req.slot]`). -/
def slotOf (b : BitVec 1) : Slot := if b = 0 then .s0 else .s1

/-- The field value of a slot (rule R74). -/
def slotBit : Slot → BitVec 1
  | .s0 => 0
  | .s1 => 1

/-- Why the decoder rejects a request word. -/
inductive DecodeReject where
  /-- The opcode is none of the 48 of rule R76. The step raises `ILLOP` for it (rules R77 and R222), so this is safe. -/
  | illegalOpcode (op : Byte)
deriving DecidableEq, Repr

/-- Decode by the opcode alone (rule R71), taking the operand fields of rule R76 and ignoring every other (rule R73). -/
def decodeFields (f : Fields) : Except DecodeReject Instr :=
  match f.op.toNat with
  | 0x00 => .ok .nop
  | 0x10 => .ok (.btSet f.btr0 f.btr1)
  | 0x11 => .ok (.btPreset f.idx.toNat)
  | 0x12 => .ok (.btPcia f.idx.toNat)
  | 0x13 => .ok .btRd0
  | 0x14 => .ok .btRd1
  | 0x15 => .ok .btU16
  | 0x16 => .ok .btBrp
  | 0x17 => .ok .btTs1
  | 0x18 => .ok .btTs2
  | 0x19 => .ok .btTicks
  | 0x1A => .ok (.btEq f.btr0 f.btr1)
  | 0x20 => .ok (.bt2Set (slotOf f.slot) (tupleOf f.a))
  | 0x21 => .ok (.bt2Pcia (slotOf f.slot) f.idx.toNat)
  | 0x22 => .ok (.bt2Pifi (slotOf f.slot) f.idx.toNat)
  | 0x23 => .ok (.bt2Pfd (slotOf f.slot) f.idx.toNat)
  | 0x24 => .ok (.bt2Rdmode (slotOf f.slot))
  | 0x25 => .ok (.bt2Rdpresc (slotOf f.slot))
  | 0x26 => .ok (.bt2Rdts1 (slotOf f.slot))
  | 0x27 => .ok (.bt2Rdts2 (slotOf f.slot))
  | 0x28 => .ok (.bt2Rdsjw (slotOf f.slot))
  | 0x29 => .ok (.bt2Rdtdo (slotOf f.slot))
  | 0x2A => .ok (.bt2Ticks (slotOf f.slot))
  | 0x2B => .ok (.bt2Eq (slotOf f.slot) (tupleOf f.a))
  | 0x30 => .ok (.fdpSet (tupleOf f.a) (tupleOf f.b))
  | 0x31 => .ok (.fdpSingle (tupleOf f.a))
  | 0x32 => .ok (.fdpPcia f.idx.toNat)
  | 0x33 => .ok (.fdpPshort f.idx.toNat)
  | 0x34 => .ok (.fdpPlong f.idx.toNat)
  | 0x40 => .ok (.cstLd f.opmode f.busload f.ctrlstat f.btr0 f.btr1)
  | 0x41 => .ok (.cst2Ld f.opmode f.exmode f.busload f.ctrlstat (tupleOf f.a) (tupleOf f.b))
  | 0x42 => .ok (.lstLd f.opmode f.busload f.ctrlstat f.linrate)
  | 0x50 => .ok .cstDec
  | 0x51 => .ok .cstRdop
  | 0x52 => .ok .cstRdload
  | 0x53 => .ok .cstRdstat
  | 0x54 => .ok .cstGetbt
  | 0x60 => .ok .cst2Dec
  | 0x61 => .ok .cst2Rdop
  | 0x62 => .ok .cst2Rdex
  | 0x63 => .ok .cst2Rdload
  | 0x64 => .ok .cst2Rdstat
  | 0x65 => .ok .cst2Getbt
  | 0x70 => .ok .lstDec
  | 0x71 => .ok .lstRdop
  | 0x72 => .ok .lstRdload
  | 0x73 => .ok .lstRdstat
  | 0x74 => .ok .lstRdrate
  | _ => .error (.illegalOpcode f.op)

/-- The decoder (rule R83): every request word gives one operation with its operands, or "illegal opcode". -/
def decode (w : ReqWord) : Except DecodeReject Instr := decodeFields (fieldsOf w)

/-- The opcode of an operation (rule R76). -/
def opcodeOf : Instr → Byte
  | .nop => 0x00
  | .btSet _ _ => 0x10
  | .btPreset _ => 0x11
  | .btPcia _ => 0x12
  | .btRd0 => 0x13
  | .btRd1 => 0x14
  | .btU16 => 0x15
  | .btBrp => 0x16
  | .btTs1 => 0x17
  | .btTs2 => 0x18
  | .btTicks => 0x19
  | .btEq _ _ => 0x1A
  | .bt2Set _ _ => 0x20
  | .bt2Pcia _ _ => 0x21
  | .bt2Pifi _ _ => 0x22
  | .bt2Pfd _ _ => 0x23
  | .bt2Rdmode _ => 0x24
  | .bt2Rdpresc _ => 0x25
  | .bt2Rdts1 _ => 0x26
  | .bt2Rdts2 _ => 0x27
  | .bt2Rdsjw _ => 0x28
  | .bt2Rdtdo _ => 0x29
  | .bt2Ticks _ => 0x2A
  | .bt2Eq _ _ => 0x2B
  | .fdpSet _ _ => 0x30
  | .fdpSingle _ => 0x31
  | .fdpPcia _ => 0x32
  | .fdpPshort _ => 0x33
  | .fdpPlong _ => 0x34
  | .cstLd _ _ _ _ _ => 0x40
  | .cst2Ld _ _ _ _ _ _ => 0x41
  | .lstLd _ _ _ _ => 0x42
  | .cstDec => 0x50
  | .cstRdop => 0x51
  | .cstRdload => 0x52
  | .cstRdstat => 0x53
  | .cstGetbt => 0x54
  | .cst2Dec => 0x60
  | .cst2Rdop => 0x61
  | .cst2Rdex => 0x62
  | .cst2Rdload => 0x63
  | .cst2Rdstat => 0x64
  | .cst2Getbt => 0x65
  | .lstDec => 0x70
  | .lstRdop => 0x71
  | .lstRdload => 0x72
  | .lstRdstat => 0x73
  | .lstRdrate => 0x74

/-- A request with nothing but an opcode: every other field assembled as 0 (rule R81). -/
def opFields (op : Byte) : Fields :=
  ⟨op, 0, 0, 0, 0, 0, 0, 0, 0, 0, 0, 0, 0⟩

/-- The fields a requester fills in for an operation (rules R72 and R81): its operands in their fields, 0 elsewhere. -/
def encodeFields (i : Instr) : Fields :=
  let f := opFields (opcodeOf i)
  match i with
  | .nop => f
  | .btSet btr0 btr1 => { f with btr0 := btr0, btr1 := btr1 }
  | .btPreset idx => { f with idx := BitVec.ofNat 4 idx }
  | .btPcia idx => { f with idx := BitVec.ofNat 4 idx }
  | .btRd0 => f
  | .btRd1 => f
  | .btU16 => f
  | .btBrp => f
  | .btTs1 => f
  | .btTs2 => f
  | .btTicks => f
  | .btEq btr0 btr1 => { f with btr0 := btr0, btr1 := btr1 }
  | .bt2Set slot a => { f with slot := slotBit slot, a := tupleBits a }
  | .bt2Pcia slot idx => { f with slot := slotBit slot, idx := BitVec.ofNat 4 idx }
  | .bt2Pifi slot idx => { f with slot := slotBit slot, idx := BitVec.ofNat 4 idx }
  | .bt2Pfd slot idx => { f with slot := slotBit slot, idx := BitVec.ofNat 4 idx }
  | .bt2Rdmode slot => { f with slot := slotBit slot }
  | .bt2Rdpresc slot => { f with slot := slotBit slot }
  | .bt2Rdts1 slot => { f with slot := slotBit slot }
  | .bt2Rdts2 slot => { f with slot := slotBit slot }
  | .bt2Rdsjw slot => { f with slot := slotBit slot }
  | .bt2Rdtdo slot => { f with slot := slotBit slot }
  | .bt2Ticks slot => { f with slot := slotBit slot }
  | .bt2Eq slot a => { f with slot := slotBit slot, a := tupleBits a }
  | .fdpSet a b => { f with a := tupleBits a, b := tupleBits b }
  | .fdpSingle a => { f with a := tupleBits a }
  | .fdpPcia idx => { f with idx := BitVec.ofNat 4 idx }
  | .fdpPshort idx => { f with idx := BitVec.ofNat 4 idx }
  | .fdpPlong idx => { f with idx := BitVec.ofNat 4 idx }
  | .cstLd opmode busload ctrlstat btr0 btr1 =>
      { f with opmode := opmode, busload := busload, ctrlstat := ctrlstat, btr0 := btr0, btr1 := btr1 }
  | .cst2Ld opmode exmode busload ctrlstat a b =>
      { f with opmode := opmode, exmode := exmode, busload := busload, ctrlstat := ctrlstat,
               a := tupleBits a, b := tupleBits b }
  | .lstLd opmode busload ctrlstat linrate =>
      { f with opmode := opmode, busload := busload, ctrlstat := ctrlstat, linrate := linrate }
  | .cstDec => f
  | .cstRdop => f
  | .cstRdload => f
  | .cstRdstat => f
  | .cstGetbt => f
  | .cst2Dec => f
  | .cst2Rdop => f
  | .cst2Rdex => f
  | .cst2Rdload => f
  | .cst2Rdstat => f
  | .cst2Getbt => f
  | .lstDec => f
  | .lstRdop => f
  | .lstRdload => f
  | .lstRdstat => f
  | .lstRdrate => f

/-- The encoder: the request word of an operation. -/
def encode (i : Instr) : ReqWord := wordOf (encodeFields i)

/-- A table row's bits as a request word: BTLS takes the request as one 304-bit word numbered from its least significant
bit (rules R7 and R70), which is the table's own numbering, and every bit above `nbits` is 0 (log entry 23). -/
def requestOfTableWord (nbits w : Nat) : ReqWord := BitVec.ofNat 304 (w % 2 ^ nbits)

/-- The instruction the decoder reads from the `nbits` low bits `w` of a request (bits above are 0). -/
def decodeTableWord (nbits w : Nat) : Option Instr := (decode (requestOfTableWord nbits w)).toOption

/-- Whether an operation reads the tuple `A`, the tuple `B`, … : the "used by" column of rule R72, as the mask of the
request bits the operation with opcode `op` uses (0 outside the opcode for an unassigned opcode). -/
def usedBits (op : Byte) : ReqWord :=
  let bits (lo width : Nat) : ReqWord := (BitVec.ofNat 304 (2 ^ width - 1)) <<< lo
  let slot := bits 8 1
  let idx := bits 9 4
  let pair := bits 16 16
  let opmode := bits 32 8
  let exmode := bits 40 8
  let loadAndStat := bits 48 16
  let linrate := bits 64 32
  let a := bits 96 104
  let b := bits 200 104
  bits 0 8 |||
    (match op.toNat with
    | 0x10 => pair
    | 0x11 => idx
    | 0x12 => idx
    | 0x1A => pair
    | 0x20 => slot ||| a
    | 0x21 => slot ||| idx
    | 0x22 => slot ||| idx
    | 0x23 => slot ||| idx
    | 0x24 => slot
    | 0x25 => slot
    | 0x26 => slot
    | 0x27 => slot
    | 0x28 => slot
    | 0x29 => slot
    | 0x2A => slot
    | 0x2B => slot ||| a
    | 0x30 => a ||| b
    | 0x31 => a
    | 0x32 => idx
    | 0x33 => idx
    | 0x34 => idx
    | 0x40 => pair ||| opmode ||| loadAndStat
    | 0x41 => opmode ||| exmode ||| loadAndStat ||| a ||| b
    | 0x42 => opmode ||| loadAndStat ||| linrate
    | _ => 0)

end Sys2Proof
end

