-- ==== Sys2Proof/Config.lean ====
section
/-! DEFINITION. The configuration of a BTLS instance: the OPEN parameters of rule R4 (gathered at the foot of
92_eei_decisions.md) as constants without a body, so that a claim holds for every value of them, and the two
informative figures. Machine/Tables.lean builds the preset tables out of these, so that the constraints the spec states
(rules R51, R55, R56 and R58) hold of every table whatever the free constants are. -/

namespace Sys2Proof.Config

/-- Entries 0 to 4 and 6 to 8 of `PRESET_BTR` (rule R51). DESIGN CHOICE, safe: free, because no entry but 5 is the
source's; the spec's defaults stand in `presetBtrDefault` (log entry 9). -/
opaque btrOpen : Nat → BTVal

/-- Entries 1 to 6 of `PRESET_IFI` (rule R55). DESIGN CHOICE, safe: free (log entry 8). -/
opaque ifiOpen : Nat → BT2Val

/-- The rates in bit/s of entries 1 to 5 of `PRESET_IFI` (rule R55 states only the first and the last one). -/
opaque ifiRatesOpen : List Nat

/-- The first entry of `PRESET_CANFD`, 250 kbit/s, but for what rule R56 fixes of it. -/
opaque canfdFirstOpen : BT2Val

/-- The entries of `PRESET_CANFD` between the first one and the 1000 kbit/s one (rule R56). -/
opaque canfdBelowOpen : List BT2Val

/-- The entries of `PRESET_CANFD` between the 1000 kbit/s one and the last one (rule R56). -/
opaque canfdAboveOpen : List BT2Val

/-- The last entry of `PRESET_CANFD`, 10000 kbit/s, but for what rule R56 fixes of it. -/
opaque canfdLastOpen : BT2Val

/-- The arbitration value that every `PAIR_SHORT` entry shares (rule R58). -/
opaque shortStdOpen : BT2Val

/-- The data value of the first `PAIR_SHORT` entry with its rate in bit/s (rule R58). -/
opaque shortFirstOpen : BT2Val × Nat

/-- The data values of the further `PAIR_SHORT` entries with their rates in bit/s (rule R58). -/
opaque shortRestOpen : List (BT2Val × Nat)

/-- The arbitration value that every `PAIR_LONG` entry shares (rule R58). -/
opaque longStdOpen : BT2Val

/-- The data value of the first `PAIR_LONG` entry (rule R58). -/
opaque longFirstOpen : BT2Val

/-- The data values of the further `PAIR_LONG` entries (rule R58). -/
opaque longRestOpen : List BT2Val

/-- `EXTEN_TESTS_ERRFRAME` (rule R176): which bit `is_ext_mode_enabled` tests. DESIGN CHOICE, safe: free, so that a claim
holds for both values (93_implementation_defined.md U2, log entry 10). -/
opaque extenTestsErrframe : Bool

/-- `LATENCY` (rule R250): the time from request to response. No rule depends on it and no definition reads it (log entry
21). DESIGN CHOICE, unsafe only for a claim about time: one number for all the operations of an instance, though rule R250
says that it may differ between operations (log entry 26). -/
opaque latency : Nat

/-- The n-th time that the two agents come to compete: which one goes first, and how many further ties it wins before the
other one's waiting request is taken (rule R67; U11: any order; a number, so that rule R249 holds: every request is taken).
DESIGN CHOICE, safe: free (log entry 2). -/
opaque arbiter : Nat → Agent × Nat

/-- `EXTEN_TESTS_ERRFRAME`'s default (rule R4: the source code's behaviour). Named for tests; no definition reads it. -/
def extenTestsErrframeDefault : Bool := true

/-- `F_CAN_CLK` (rule R5): the clock in Hz of the CAN controller a BTR0/BTR1 pair is meant for; informative. -/
def fCanClk : Nat := 16000000

end Sys2Proof.Config
end

