-- ==== Sys2Proof/Machine/State.lean ====
section
/-! DEFINITION. The state of BTLS (rules R20 to R41), the model's own fields that carry a step's inputs and its response
(rules R47, R67, R70, R80 and R240), and the state after reset (rule R46). State is plain data. -/

namespace Sys2Proof.Machine

/-- The data of the register `CST` (rule R27): a classic CAN line-status snapshot. -/
structure CanSnapshot where
  opmode   : Byte
  busload  : Byte
  ctrlstat : Byte
  btr0     : Byte
  btr1     : Byte
deriving DecidableEq, Repr

/-- The data of the register `CST2` (rule R28): an extended (CAN-FD) line-status snapshot. -/
structure CanSnapshot2 where
  opmode   : Byte
  exmode   : Byte
  busload  : Byte
  ctrlstat : Byte
  std      : BT2Val
  fast     : BT2Val
deriving DecidableEq, Repr

/-- The data of the register `LST` (rule R34): a LIN line-status snapshot. -/
structure LinSnapshot where
  opmode   : Byte
  busload  : Byte
  ctrlstat : Byte
  bitrate  : Word
deriving DecidableEq, Repr

/-- The faults of rule R221. A fault is no stop: the operation ends, `ERR` may change, and the next request is taken. -/
inductive FaultCode where
  | illop
  | priv
  | badidx
  | noval
deriving DecidableEq, Repr

/-- The response to a request (rule R80): whom it answers, `rsp_fault[2:0]` and `rsp_res[31:0]`. -/
structure Response where
  agent : Agent
  fault : BitVec 3
  res   : Word
deriving DecidableEq, Repr

/-- The state. The eight fields from `bt` to `err` are the whole state of BTLS (rule R20). A holding register is an
`Option`: `none` is its valid bit at 0, where the data is no value at all, and `some` is the valid bit at 1 with the data
(rules R39 and R46; 93_implementation_defined.md U5). The fields from `callerPort` on are the model's own: the inputs of
the step and its response (rule R47; log entries 1 to 5); `lead` is the agent whose requests are passing over one the other agent has waiting, with
the number of further ties it wins (rules R67 and R249). -/
structure State where
  bt         : Option BTVal
  bt2s0      : Option BT2Val
  bt2s1      : Option BT2Val
  cst        : Option CanSnapshot
  cst2       : Option CanSnapshot2
  lst        : Option LinSnapshot
  res        : Word
  err        : BitVec 3
  callerPort : List ReqWord
  driverPort : List ReqWord
  rst        : Bool
  agent      : Agent
  arbCount   : Nat
  lead       : Option (Agent × Nat)
  rsp        : Option Response
deriving DecidableEq, Repr

/-- What stops the machine: nothing. Every fault of BTLS is reported in a response and the next request is taken as usual
(rules R221 and R249), so no step ends in an `Outcome.fault`, and this type has no constructor (safe: log entry 16). -/
inductive Fault where
deriving DecidableEq, Repr

/-- What the model declines. -/
inductive Refusal where
  /-- Raised by an arm of `exec` whose instruction has no meaning yet; safe (nothing is claimed of it). No arm of this model
  raises it. -/
  | notModelled (mnemonic : String)
deriving DecidableEq, Repr

/-- The outcome of an operation or a step. -/
abbrev Result := Host.Outcome State Fault Refusal

/-- The state after reset (rule R46): six valid bits 0, `RES` 0, `ERR` 0. Of the model's own fields, no request waits, `rst`
is not asserted, no response stands, and no request is passed over, and `agent` and `arbCount` hold a value no rule reads before
a request is taken (DESIGN CHOICE, log entries 1 to 5). -/
def State.reset : State where
  bt         := none
  bt2s0      := none
  bt2s1      := none
  cst        := none
  cst2       := none
  lst        := none
  res        := 0
  err        := 0
  callerPort := []
  driverPort := []
  rst        := false
  agent      := .caller
  arbCount   := 0
  lead       := none
  rsp        := none

end Sys2Proof.Machine
end

