-- ==== Sys2Proof/Machine/Tables.lean ====
section
/-! DEFINITION. The eight read-only preset tables (rules R50 to R59). What the spec fixes of a table stands here as a
value; what it leaves OPEN comes from Config. An open part that breaks a constraint the spec states is replaced, so that
the constraints hold by construction and every table that meets them is still some value of the open part (log entry 8). -/

namespace Sys2Proof.Machine

/-- An open value under a constraint: `raw` where it meets the constraint, else `witness`, a value that meets it. -/
def legalOr {α : Type} (legal : α → Bool) (raw witness : α) : α := if legal raw then raw else witness

/-- `is_raw(v) = v.mode[0]` (rule R130). -/
def isRaw (v : BT2Val) : Bool := (v.mode &&& 0x01) != 0

/-- `is_triple_sampling(v) = v.mode[1]` (rule R130). -/
def isTripleSampling (v : BT2Val) : Bool := (v.mode &&& 0x02) != 0

/-- `BT2_TICKS_SENTINEL` (rules R4 and R132; log entry 25). -/
def bt2TicksSentinel : Word := 0x00000000

/-- Entry 5 of `PRESET_BTR`, the one entry the source gives (rule R51). -/
def presetBtr250k : BTVal := ⟨0x01, 0x1C⟩

/-- `PRESET_BTR` (rule R51): entry 5 fixed, the others free (log entry 9). -/
def presetBtr : List BTVal :=
  [Config.btrOpen 0, Config.btrOpen 1, Config.btrOpen 2, Config.btrOpen 3, Config.btrOpen 4, presetBtr250k,
   Config.btrOpen 6, Config.btrOpen 7, Config.btrOpen 8]

/-- `PRESET_BTR` with the spec's defaults, which are from general knowledge and not in the source (rule R51). Named for
tests and for claims that name this assumption; no operation reads it. -/
def presetBtrDefault : List BTVal :=
  [⟨0x31, 0x1C⟩, ⟨0x18, 0x1C⟩, ⟨0x09, 0x1C⟩, ⟨0x04, 0x1C⟩, ⟨0x03, 0x1C⟩, ⟨0x01, 0x1C⟩, ⟨0x00, 0x1C⟩, ⟨0x00, 0x16⟩,
   ⟨0x00, 0x14⟩]

/-- `CIA_ALL` (rule R52): the source's `cia_all()` as indices into `PRESET_BTR`. -/
def ciaAll : List Nat := [0, 1, 2, 4, 5, 6, 7, 8]

/-- What `BT.PCIA` reads from a classic table (rule R102): `ROM.PRESET_BTR[ROM.CIA_ALL[k]]` for each `k`. -/
def ciaOf (btr : List BTVal) : List BTVal := ciaAll.filterMap fun k => btr[k]?

/-- A CiA entry of `PRESET_CIA2`: logical mode, the rate in bit/s, `ts2` = 2, `sjw` = 1, `tdo` = 0 (rule R54). -/
def cia2Entry (bps : Word) (ts1 : Half) : BT2Val := ⟨0x00, bps, ts1, 2, 1, 0⟩

/-- `PRESET_CIA2` (rule R54; the spec's reading, log entry 15). -/
def presetCia2 : List BT2Val :=
  [cia2Entry 10000 14, cia2Entry 20000 14, cia2Entry 50000 14, cia2Entry 125000 14, cia2Entry 250000 14,
   cia2Entry 500000 14, cia2Entry 800000 8, cia2Entry 1000000 6]

/-- Entry 0 of `PRESET_IFI`, the one the source gives (rule R55). -/
def presetIfi1000k : BT2Val := ⟨0x01, 4, 15, 4, 4, 64⟩

/-- A value with `mode[0]` = 1, the constraint on the open entries of `PRESET_IFI` (rule R55). -/
def asRaw (v : BT2Val) : BT2Val := { v with mode := v.mode ||| 0x01 }

/-- `PRESET_IFI` (rule R55): entry 0 fixed, entries 1 to 6 free with `mode[0]` = 1. -/
def presetIfi : List BT2Val :=
  [presetIfi1000k, asRaw (Config.ifiOpen 1), asRaw (Config.ifiOpen 2), asRaw (Config.ifiOpen 3),
   asRaw (Config.ifiOpen 4), asRaw (Config.ifiOpen 5), asRaw (Config.ifiOpen 6)]

/-- Rates that do not fall from one to the next (rules R55 and R56: "ascending"; log entry 11). -/
def ascending : List Nat → Bool
  | [] => true
  | [_] => true
  | r :: r' :: rs => decide (r ≤ r') && ascending (r' :: rs)

/-- The rates in bit/s of the `PRESET_IFI` entries (rule R55): 1000 kbit/s first, 10000 kbit/s last, ascending. -/
def ifiRates : List Nat :=
  1000000 ::
    (legalOr (fun rs => rs.length == 5 && ascending (1000000 :: rs ++ [10000000])) Config.ifiRatesOpen
      (List.replicate 5 1000000)
    ++ [10000000])

/-- `tdo = floor((ts1 + ts2) * f)` for `f` given in hundredths (rule R56; DEDUCED, log entry 12). -/
def tdoIsFraction (v : BT2Val) (hundredths : Nat) : Bool :=
  v.tdo.toNat == (v.ts1.toNat + v.ts2.toNat) * hundredths / 100

/-- What rule R56 settles of an entry on its own: logical mode, and `tdo` one of the five fractions. -/
def legalCanfdEntry (v : BT2Val) : Bool :=
  !isRaw v && [80, 81, 75, 67, 50].any (tdoIsFraction v)

/-- The 1000 kbit/s entry of `PRESET_CANFD`, which the source gives in full (rule R56). -/
def presetCanfd1000k : BT2Val := ⟨0x00, 1000000, 1600, 400, 400, 1600⟩

/-- The neutral legal entry with a given rate: all quanta 0. It only ever stands in for an open entry that breaks rule
R56. -/
def neutralCanfd (bps : Word) : BT2Val := ⟨0x00, bps, 0, 0, 0, 0⟩

/-- An open entry of `PRESET_CANFD` whose rate rule R56 states. -/
def canfdEntryAt (bps : Word) (raw : BT2Val) : BT2Val :=
  legalOr legalCanfdEntry { raw with presc := bps } (neutralCanfd bps)

/-- What rule R56 settles of the open entries below and above the 1000 kbit/s one: each legal, the rates ascending in
their place, at most 16 entries in all. -/
def legalCanfdMiddle (m : List BT2Val × List BT2Val) : Bool :=
  m.1.all legalCanfdEntry && m.2.all legalCanfdEntry
    && ascending (250000 :: m.1.map (·.presc.toNat) ++ [1000000])
    && ascending (1000000 :: m.2.map (·.presc.toNat) ++ [10000000])
    && decide (m.1.length + m.2.length + 3 ≤ 16)

/-- The open entries of `PRESET_CANFD` below and above the 1000 kbit/s one. -/
def canfdMiddle : List BT2Val × List BT2Val :=
  legalOr legalCanfdMiddle (Config.canfdBelowOpen, Config.canfdAboveOpen) ([], [])

/-- `PRESET_CANFD` (rule R56). -/
def presetCanfd : List BT2Val :=
  canfdEntryAt 250000 Config.canfdFirstOpen ::
    (canfdMiddle.1 ++ presetCanfd1000k :: canfdMiddle.2 ++ [canfdEntryAt 10000000 Config.canfdLastOpen])

/-- `N_CANFD` (rule R4). -/
def nCanfd : Nat := presetCanfd.length

/-- `IDX_CANFD_1000K` (rule R4). -/
def idxCanfd1000k : Nat := canfdMiddle.1.length + 1

/-- `PAIR_CIA` (rule R57; the spec's reading, log entry 19). -/
def pairCia : List FdPair := presetCia2.map fun v => ⟨v, v⟩

/-- Being an entry of one of the three BitTimingValue2 tables (rule R58). -/
def isBt2Preset (v : BT2Val) : Bool := decide (v ∈ presetCia2 ++ presetIfi ++ presetCanfd)

/-- Being a preset whose rate is the logical bit/s value `bps` (rules R26 and R58; log entry 11). -/
def isLogicalPreset (bps : Word) (v : BT2Val) : Bool := isBt2Preset v && !isRaw v && v.presc == bps

/-- Being a preset with its rate in bit/s: a logical value's `presc`, a raw value's rate in the IFI table (rule R58). -/
def isRatedPreset (f : BT2Val × Nat) : Bool :=
  (isLogicalPreset f.1.presc f.1 && f.2 == f.1.presc.toNat) || decide (f ∈ presetIfi.zip ifiRates)

/-- Rates that rise strictly from one to the next (rule R58). -/
def rising : List Nat → Bool
  | [] => true
  | [_] => true
  | r :: r' :: rs => decide (r < r') && rising (r' :: rs)

/-- The 500 kbit/s value that every `PAIR_SHORT` entry shares (rule R58). -/
def shortStd : BT2Val := legalOr (isLogicalPreset 500000) Config.shortStdOpen (cia2Entry 500000 14)

/-- The data value of the first `PAIR_SHORT` entry with its rate (rule R58). -/
def shortFirst : BT2Val × Nat := legalOr isRatedPreset Config.shortFirstOpen (cia2Entry 1000000 6, 1000000)

/-- The data values of the further `PAIR_SHORT` entries with their rates (rule R58). -/
def shortRest : List (BT2Val × Nat) :=
  legalOr (fun fs => fs.all isRatedPreset && rising (shortFirst.2 :: fs.map (·.2)) && decide (fs.length ≤ 15))
    Config.shortRestOpen []

/-- `PAIR_SHORT` (rule R58). -/
def pairShort : List FdPair := (shortFirst :: shortRest).map fun f => ⟨shortStd, f.1⟩

/-- `N_SHORT` (rule R4). -/
def nShort : Nat := pairShort.length

/-- The 250 kbit/s value that every `PAIR_LONG` entry shares (rule R58). -/
def longStd : BT2Val := legalOr (isLogicalPreset 250000) Config.longStdOpen (cia2Entry 250000 14)

/-- The data value of the first `PAIR_LONG` entry (rule R58). -/
def longFirst : BT2Val := legalOr isBt2Preset Config.longFirstOpen (cia2Entry 1000000 6)

/-- The data values of the further `PAIR_LONG` entries (rule R58). -/
def longRest : List BT2Val :=
  legalOr (fun fs => fs.all isBt2Preset && decide (fs.length ≤ 15)) Config.longRestOpen []

/-- `PAIR_LONG` (rule R58). -/
def pairLong : List FdPair := (longFirst :: longRest).map fun f => ⟨longStd, f⟩

/-- `N_LONG` (rule R4). -/
def nLong : Nat := pairLong.length

end Sys2Proof.Machine
end

