-- ==== Sys2Proof/Machine/Operands.lean ====
section
/-! DEFINITION. The operand forms of the operations (rule R74): a slot of the pair, an index into a table; and the pure
functions of a classic register pair (rule R106). -/

namespace Sys2Proof.Machine

/-- `BT2[s]` (rules R23 and R74). -/
def State.bt2 (s : State) : Slot → Option BT2Val
  | .s0 => s.bt2s0
  | .s1 => s.bt2s1

/-- The pair register `FDP` as one value when both slots are valid (rule R23). -/
def State.fdp (s : State) : Option FdPair :=
  match s.bt2s0, s.bt2s1 with
  | some std, some fast => some ⟨std, fast⟩
  | _, _ => none

/-- `ROM.<table>[k]` (rule R59): the entry, or nothing at or past the table's length. -/
def romRead {α : Type} (table : List α) (k : Nat) : Option α := table[k]?

/-- `brp(b) = b.btr0 & 0x3F` (rule R106). -/
def brp (b : BTVal) : Byte := b.btr0 &&& 0x3F

/-- `ts1(b) = b.btr1 & 0x0F` (rule R106). -/
def ts1 (b : BTVal) : Byte := b.btr1 &&& 0x0F

/-- `ts2(b) = (b.btr1 & 0x70) >> 4` (rule R106). -/
def ts2 (b : BTVal) : Byte := (b.btr1 &&& 0x70) >>> 4

/-- `u16(b) = (zext_16(b.btr1) << 8) | zext_16(b.btr0)` (rules R60 and R106). -/
def u16 (b : BTVal) : Half := (b.btr1.setWidth 16 <<< 8) ||| b.btr0.setWidth 16

/-- `ticks(b) = 2 * (brp(b) + 1) * (ts1(b) + ts2(b) + 3)` in natural numbers (rules R8 and R106). -/
def ticks (b : BTVal) : Nat := 2 * ((brp b).toNat + 1) * ((ts1 b).toNat + (ts2 b).toNat + 3)

/-- The classic pair embedded in a `CST` snapshot (rules R27 and R170). -/
def CanSnapshot.bitrate (x : CanSnapshot) : BTVal := ⟨x.btr0, x.btr1⟩

/-- The two values embedded in a `CST2` snapshot (rules R28 and R182). -/
def CanSnapshot2.bitrates (x : CanSnapshot2) : FdPair := ⟨x.std, x.fast⟩

end Sys2Proof.Machine
end

