-- ==== Sys2Proof/Machine/Ops.lean ====
section
/-! DEFINITION. The named operations the meanings are made of: whole-register writes (rules R22, R24, R38 and R62), the
response (rule R80), raising a fault (rule R221), and the checks in their order (rule R226). There is no return from a
fault beside it: a fault enters no handler (rule R228). -/

namespace Sys2Proof.Machine

/-- `BT <- b; BT.v <- 1` (rule R22). -/
def State.setBt (s : State) (b : BTVal) : State := { s with bt := some b }

/-- `BT2[k] <- v; BT2[k].v <- 1` (rule R24). -/
def State.setBt2 (s : State) (k : Slot) (v : BT2Val) : State :=
  match k with
  | .s0 => { s with bt2s0 := some v }
  | .s1 => { s with bt2s1 := some v }

/-- Both slots and both valid bits in one atomic write (rule R62). -/
def State.setFdp (s : State) (p : FdPair) : State := { s with bt2s0 := some p.std, bt2s1 := some p.fast }

/-- `CST <- x; CST.v <- 1` (rule R38). -/
def State.setCst (s : State) (x : CanSnapshot) : State := { s with cst := some x }

/-- `CST2 <- x; CST2.v <- 1` (rule R38). -/
def State.setCst2 (s : State) (x : CanSnapshot2) : State := { s with cst2 := some x }

/-- `LST <- x; LST.v <- 1` (rule R38). -/
def State.setLst (s : State) (x : LinSnapshot) : State := { s with lst := some x }

/-- `RES <- v` (rule R40). -/
def State.setRes (s : State) (v : Word) : State := { s with res := v }

/-- The fault codes of rule R221. -/
def FaultCode.code : FaultCode → BitVec 3
  | .illop => 1
  | .priv => 2
  | .badidx => 3
  | .noval => 4

/-- `ERR` takes the code only if it holds 0 (rules R41 and R221). -/
def State.recordFault (s : State) (c : FaultCode) : State := { s with err := if s.err = 0 then c.code else s.err }

/-- The response of the operation: the fault code and the value of `RES` after it, to the agent that asked (rule R80). -/
def State.respond (s : State) (fault : BitVec 3) : State := { s with rsp := some ⟨s.agent, fault, s.res⟩ }

/-- The end of an operation that raised no fault: `rsp_fault` = 0 (rule R221, code `NONE`). -/
def finish (s : State) : Result := .next (s.respond 0)

/-- `raise Fault(code)` (rule R221): the response carries the code, `ERR` takes it if it was 0, and nothing else changes.
BTLS goes on with the next request, so this is a next state. -/
def raise (c : FaultCode) (s : State) : Result := .next ((s.recordFault c).respond c.code)

/-- The agent check (rules R223 and R226): the second check, before the index and the valid bit. -/
def onlyFor (a : Agent) (s : State) (body : Result) : Result := if s.agent = a then body else raise .priv s

/-- A CALLER operation that writes registers without reading any: it cannot fault but for the agent. -/
def callerWrite (s written : State) : Result := onlyFor .caller s (finish written)

/-- A snapshot load: DRIVER only (rules R38 and R231). -/
def driverWrite (s written : State) : Result := onlyFor .driver s (finish written)

/-- A preset load (rules R59 and R224): the third check is the index against the table's length. -/
def callerPreset {α : Type} (table : List α) (idx : Nat) (s : State) (write : α → State) : Result :=
  onlyFor .caller s
    (match romRead table idx with
    | none => raise .badidx s
    | some entry => finish (write entry))

/-- An operation that reads a holding register (rules R39 and R225): the last check is the valid bit. -/
def callerUse {α : Type} (reg : Option α) (s : State) (write : α → State) : Result :=
  onlyFor .caller s
    (match reg with
    | none => raise .noval s
    | some data => finish (write data))

/-- A read-type operation (rule R40): the result goes to `RES`, nothing else changes. -/
def callerRead {α : Type} (reg : Option α) (s : State) (f : α → Word) : Result :=
  callerUse reg s fun data => s.setRes (f data)

end Sys2Proof.Machine
end

