-- ==== Sys2Proof/Machine/Bt2.lean ====
section
/-! DEFINITION. The twelve operations on the six-parameter registers `BT2[0]` and `BT2[1]` (rules R120 to R132). -/

namespace Sys2Proof.Machine

/-- `BT2.SET` (rule R120). -/
def execBt2Set (slot : Slot) (a : BT2Val) (s : State) : Result :=
  callerWrite s (s.setBt2 slot a)

/-- `BT2.PCIA` (rule R121). -/
def execBt2Pcia (slot : Slot) (idx : Nat) (s : State) : Result :=
  callerPreset presetCia2 idx s (s.setBt2 slot)

/-- `BT2.PIFI` (rule R122). -/
def execBt2Pifi (slot : Slot) (idx : Nat) (s : State) : Result :=
  callerPreset presetIfi idx s (s.setBt2 slot)

/-- `BT2.PFD` (rule R123). -/
def execBt2Pfd (slot : Slot) (idx : Nat) (s : State) : Result :=
  callerPreset presetCanfd idx s (s.setBt2 slot)

/-- `BT2.RDMODE` (rule R124). -/
def execBt2Rdmode (slot : Slot) (s : State) : Result :=
  callerRead (s.bt2 slot) s fun v => zext32 v.mode

/-- `BT2.RDPRESC` (rule R125): the 32 bits without regard to `mode`. -/
def execBt2Rdpresc (slot : Slot) (s : State) : Result :=
  callerRead (s.bt2 slot) s fun v => v.presc

/-- `BT2.RDTS1` (rule R126). -/
def execBt2Rdts1 (slot : Slot) (s : State) : Result :=
  callerRead (s.bt2 slot) s fun v => zext32 v.ts1

/-- `BT2.RDTS2` (rule R127). -/
def execBt2Rdts2 (slot : Slot) (s : State) : Result :=
  callerRead (s.bt2 slot) s fun v => zext32 v.ts2

/-- `BT2.RDSJW` (rule R128). -/
def execBt2Rdsjw (slot : Slot) (s : State) : Result :=
  callerRead (s.bt2 slot) s fun v => zext32 v.sjw

/-- `BT2.RDTDO` (rule R129). -/
def execBt2Rdtdo (slot : Slot) (s : State) : Result :=
  callerRead (s.bt2 slot) s fun v => zext32 v.tdo

/-- `BT2.TICKS` (rule R132): the sentinel, whatever the fields hold. It is no bit time (93_implementation_defined.md U1). -/
def execBt2Ticks (slot : Slot) (s : State) : Result :=
  callerRead (s.bt2 slot) s fun _ => bt2TicksSentinel

/-- `BT2.EQ` (rule R131): all six fields, the reserved bits of `mode` included. -/
def execBt2Eq (slot : Slot) (a : BT2Val) (s : State) : Result :=
  callerRead (s.bt2 slot) s fun v =>
    boolWord (v.mode == a.mode && v.presc == a.presc && v.ts1 == a.ts1 && v.ts2 == a.ts2 && v.sjw == a.sjw
      && v.tdo == a.tdo)

end Sys2Proof.Machine
end

