-- ==== Sys2Proof/Machine/BtClassic.lean ====
section
/-! DEFINITION. The eleven operations on the classic register `BT` (rules R100 to R111). -/

namespace Sys2Proof.Machine

/-- `BT.SET` (rule R100). -/
def execBtSet (btr0 btr1 : Byte) (s : State) : Result :=
  callerWrite s (s.setBt ⟨btr0, btr1⟩)

/-- `BT.PRESET` (rule R101). -/
def execBtPreset (idx : Nat) (s : State) : Result :=
  callerPreset presetBtr idx s s.setBt

/-- `BT.PCIA` (rule R102). -/
def execBtPcia (idx : Nat) (s : State) : Result :=
  callerPreset (ciaOf presetBtr) idx s s.setBt

/-- `BT.RD0` (rule R103). -/
def execBtRd0 (s : State) : Result :=
  callerRead s.bt s fun b => zext32 b.btr0

/-- `BT.RD1` (rule R104). -/
def execBtRd1 (s : State) : Result :=
  callerRead s.bt s fun b => zext32 b.btr1

/-- `BT.U16` (rule R105). -/
def execBtU16 (s : State) : Result :=
  callerRead s.bt s fun b => zext32 (u16 b)

/-- `BT.BRP` (rule R107). -/
def execBtBrp (s : State) : Result :=
  callerRead s.bt s fun b => zext32 (brp b)

/-- `BT.TS1` (rule R108). -/
def execBtTs1 (s : State) : Result :=
  callerRead s.bt s fun b => zext32 (ts1 b)

/-- `BT.TS2` (rule R109). -/
def execBtTs2 (s : State) : Result :=
  callerRead s.bt s fun b => zext32 (ts2 b)

/-- `BT.TICKS` (rule R110). -/
def execBtTicks (s : State) : Result :=
  callerRead s.bt s fun b => BitVec.ofNat 32 (ticks b)

/-- `BT.EQ` (rule R111): all 16 bits, the undecoded ones included. -/
def execBtEq (btr0 btr1 : Byte) (s : State) : Result :=
  callerRead s.bt s fun b => boolWord (b.btr0 == btr0 && b.btr1 == btr1)

end Sys2Proof.Machine
end

