-- ==== Sys2Proof/Machine/Flags.lean ====
section
/-! DEFINITION. The flag fields of the line-status snapshots: every flag as a named mask (rules R25, R30 to R33, R36 and
R37; the positions are the spec's, from general knowledge: log entry 13, and which predicate tests which flag: log entry 14) and every predicate (rules R152 to R184 and R191
to R201), each a function of the one field it reads, together with the three decode words (rules R166, R177 and R196). -/

namespace Sys2Proof.Machine

/-- A test of a mask's presence: `bool((field & mask) != 0)` (rule R152). -/
def testMask (field mask : Byte) : Bool := (field &&& mask) != 0

/-! The CAN `opmode` flags (rules R30 and R31). -/

def flagStandard : Byte := 0x01
def flagExtended : Byte := 0x02
def flagErrFrame : Byte := 0x04
def flagListenOnly : Byte := 0x08
def flagLowSpeed : Byte := 0x10
def flagAutoBaudrate : Byte := 0x20

/-- `ModeMask = Standard | Extended` (rule R31). -/
def modeMask : Byte := flagStandard ||| flagExtended

/-- The value `Undefined` of the mode field (rule R31). -/
def modeUndefined : Byte := 0x00

/-! The `exmode` flags of `CST2` (rule R32). -/

def flagExtendedDataLength : Byte := 0x01
def flagFastDataRate : Byte := 0x02
def flagNonIsoCanFd : Byte := 0x04

/-! The CAN `ctrlstat` flags (rule R33). -/

def flagTxPending : Byte := 0x01
def flagOverrun : Byte := 0x02
def flagErrLimit : Byte := 0x04
def flagBusOff : Byte := 0x08
def flagInInit : Byte := 0x10
def flagBusCouplingError : Byte := 0x20

/-! The LIN flags (rules R36 and R37). -/

def flagLinMaster : Byte := 0x01
def flagLinErrors : Byte := 0x02
def flagLinOverrun : Byte := 0x01
def flagLinInInit : Byte := 0x10

/-- Rule R153. -/
def isModeUndefined (opmode : Byte) : Bool := (opmode &&& modeMask) == modeUndefined

/-- Rule R154. -/
def isModeStandard (opmode : Byte) : Bool := (opmode &&& modeMask) == flagStandard

/-- Rule R155. -/
def isModeExtended (opmode : Byte) : Bool := (opmode &&& modeMask) == flagExtended

/-- Rule R156 (the source's `IsErrModeEnabled`). -/
def isErrorFramesEnabled (opmode : Byte) : Bool := testMask opmode flagErrFrame

/-- Rule R157. -/
def isListenOnly (opmode : Byte) : Bool := testMask opmode flagListenOnly

/-- Rule R158. -/
def isLowSpeedEnabled (opmode : Byte) : Bool := testMask opmode flagLowSpeed

/-- Rule R159. -/
def isAutoBaudrateEnabled (opmode : Byte) : Bool := testMask opmode flagAutoBaudrate

/-- Rule R160. -/
def isTransmitPending (ctrlstat : Byte) : Bool := testMask ctrlstat flagTxPending

/-- Rule R161. -/
def hasDataOverrun (ctrlstat : Byte) : Bool := testMask ctrlstat flagOverrun

/-- Rule R162. -/
def hasErrorOverrun (ctrlstat : Byte) : Bool := testMask ctrlstat flagErrLimit

/-- Rule R163. -/
def isBusOff (ctrlstat : Byte) : Bool := testMask ctrlstat flagBusOff

/-- Rule R164. -/
def isInInitMode (ctrlstat : Byte) : Bool := testMask ctrlstat flagInInit

/-- Rule R165. -/
def isBusCouplingError (ctrlstat : Byte) : Bool := testMask ctrlstat flagBusCouplingError

/-- Rule R172. -/
def isExtendedDataLengthEnabled (exmode : Byte) : Bool := testMask exmode flagExtendedDataLength

/-- Rule R173. -/
def isFastDataEnabled (exmode : Byte) : Bool := testMask exmode flagFastDataRate

/-- Rule R174. -/
def isNonIsoCanfdEnabled (exmode : Byte) : Bool := testMask exmode flagNonIsoCanFd

/-- Rule R176, for a value of `EXTEN_TESTS_ERRFRAME`: the code's behaviour tests `ErrFrame`, the correction `Extended`. -/
def isExtModeEnabled (testsErrframe : Bool) (opmode : Byte) : Bool :=
  if testsErrframe then testMask opmode flagErrFrame else testMask opmode flagExtended

/-- Rule R191: slave is the value 0 of the `Master` bit. -/
def isInSlaveMode (opmode : Byte) : Bool := (opmode &&& flagLinMaster) == 0

/-- Rule R192: its own test of the `Master` bit, not the inverse of rule R191. -/
def isInMasterMode (opmode : Byte) : Bool := testMask opmode flagLinMaster

/-- Rule R193. -/
def isErrModeEnabled (opmode : Byte) : Bool := testMask opmode flagLinErrors

/-- Rule R194: the LIN predicate of that name. -/
def hasLinDataOverrun (ctrlstat : Byte) : Bool := testMask ctrlstat flagLinOverrun

/-- Rule R195: the LIN predicate of that name. -/
def isLinInInitMode (ctrlstat : Byte) : Bool := testMask ctrlstat flagLinInInit

/-- A decode word: the predicates from bit 0 up, zeros above (rules R166, R177 and R196). -/
def flagWord : List Bool → Word
  | [] => 0
  | b :: bs => (flagWord bs <<< 1) ||| boolWord b

/-- The thirteen predicates of rules R153 to R165, in the bit order of rule R166. -/
def canPredicates (opmode ctrlstat : Byte) : List Bool :=
  [isModeUndefined opmode, isModeStandard opmode, isModeExtended opmode, isErrorFramesEnabled opmode,
   isListenOnly opmode, isLowSpeedEnabled opmode, isAutoBaudrateEnabled opmode, isTransmitPending ctrlstat,
   hasDataOverrun ctrlstat, hasErrorOverrun ctrlstat, isBusOff ctrlstat, isInInitMode ctrlstat,
   isBusCouplingError ctrlstat]

/-- The decode word of a classic snapshot (rule R166). -/
def cstWord (x : CanSnapshot) : Word := flagWord (canPredicates x.opmode x.ctrlstat)

/-- The decode word of an extended snapshot (rule R177), for a value of `EXTEN_TESTS_ERRFRAME`. -/
def cst2Word (testsErrframe : Bool) (x : CanSnapshot2) : Word :=
  flagWord (canPredicates x.opmode x.ctrlstat ++
    [isExtendedDataLengthEnabled x.exmode, isFastDataEnabled x.exmode, isNonIsoCanfdEnabled x.exmode,
     isExtModeEnabled testsErrframe x.opmode])

/-- The decode word of a LIN snapshot (rule R196). -/
def lstWord (x : LinSnapshot) : Word :=
  flagWord [isInSlaveMode x.opmode, isInMasterMode x.opmode, isErrModeEnabled x.opmode, hasLinDataOverrun x.ctrlstat,
    isLinInInitMode x.ctrlstat]

end Sys2Proof.Machine
end

