-- ==== Sys2Proof/Machine/CanStatus.lean ====
section
/-! DEFINITION. The operations on the CAN line-status registers `CST` and `CST2` (rules R150, R151, R166 to R170 and R177 to R182). -/

namespace Sys2Proof.Machine

/-- `CST.LD` (rule R150): the embedded bit rate goes to `CST`, not to `BT`. -/
def execCstLd (opmode busload ctrlstat btr0 btr1 : Byte) (s : State) : Result :=
  driverWrite s (s.setCst ⟨opmode, busload, ctrlstat, btr0, btr1⟩)

/-- `CST2.LD` (rule R151). -/
def execCst2Ld (opmode exmode busload ctrlstat : Byte) (a b : BT2Val) (s : State) : Result :=
  driverWrite s (s.setCst2 ⟨opmode, exmode, busload, ctrlstat, a, b⟩)

/-- `CST.DEC` (rule R166). -/
def execCstDec (s : State) : Result :=
  callerRead s.cst s cstWord

/-- `CST.RDOP` (rule R167). -/
def execCstRdop (s : State) : Result :=
  callerRead s.cst s fun x => zext32 x.opmode

/-- `CST.RDLOAD` (rule R168): no clamping. -/
def execCstRdload (s : State) : Result :=
  callerRead s.cst s fun x => zext32 x.busload

/-- `CST.RDSTAT` (rule R169). -/
def execCstRdstat (s : State) : Result :=
  callerRead s.cst s fun x => zext32 x.ctrlstat

/-- `CST.GETBT` (rule R170): write-type, `RES` unchanged. -/
def execCstGetbt (s : State) : Result :=
  callerUse s.cst s fun x => s.setBt x.bitrate

/-- `CST2.DEC` (rule R177), under the OPEN parameter of rule R176. -/
def execCst2Dec (s : State) : Result :=
  callerRead s.cst2 s (cst2Word Config.extenTestsErrframe)

/-- `CST2.RDOP` (rule R178). -/
def execCst2Rdop (s : State) : Result :=
  callerRead s.cst2 s fun x => zext32 x.opmode

/-- `CST2.RDEX` (rule R179). -/
def execCst2Rdex (s : State) : Result :=
  callerRead s.cst2 s fun x => zext32 x.exmode

/-- `CST2.RDLOAD` (rule R180): no clamping. -/
def execCst2Rdload (s : State) : Result :=
  callerRead s.cst2 s fun x => zext32 x.busload

/-- `CST2.RDSTAT` (rule R181). -/
def execCst2Rdstat (s : State) : Result :=
  callerRead s.cst2 s fun x => zext32 x.ctrlstat

/-- `CST2.GETBT` (rule R182): both slots in one atomic write. -/
def execCst2Getbt (s : State) : Result :=
  callerUse s.cst2 s fun x => s.setFdp x.bitrates

end Sys2Proof.Machine
end

