-- ==== Sys2Proof/Machine/FdPair.lean ====
section
/-! DEFINITION. The five operations on the pair `FDP` (rules R140 to R144); the pair has no compare (rule R145). -/

namespace Sys2Proof.Machine

/-- `FDP.SET` (rule R140). -/
def execFdpSet (a b : BT2Val) (s : State) : Result :=
  callerWrite s (s.setFdp ⟨a, b⟩)

/-- `FDP.SINGLE` (rule R141). -/
def execFdpSingle (a : BT2Val) (s : State) : Result :=
  callerWrite s (s.setFdp ⟨a, a⟩)

/-- `FDP.PCIA` (rule R142). -/
def execFdpPcia (idx : Nat) (s : State) : Result :=
  callerPreset pairCia idx s s.setFdp

/-- `FDP.PSHORT` (rule R143). -/
def execFdpPshort (idx : Nat) (s : State) : Result :=
  callerPreset pairShort idx s s.setFdp

/-- `FDP.PLONG` (rule R144). -/
def execFdpPlong (idx : Nat) (s : State) : Result :=
  callerPreset pairLong idx s s.setFdp

end Sys2Proof.Machine
end

