-- ==== Sys2Proof/Machine/LinStatus.lean ====
section
/-! DEFINITION. The operations on the LIN line-status register `LST` (rules R190 and R196 to R200). -/

namespace Sys2Proof.Machine

/-- `LST.LD` (rule R190). -/
def execLstLd (opmode busload ctrlstat : Byte) (linrate : Word) (s : State) : Result :=
  driverWrite s (s.setLst ⟨opmode, busload, ctrlstat, linrate⟩)

/-- `LST.DEC` (rule R196). -/
def execLstDec (s : State) : Result :=
  callerRead s.lst s lstWord

/-- `LST.RDOP` (rule R197). -/
def execLstRdop (s : State) : Result :=
  callerRead s.lst s fun x => zext32 x.opmode

/-- `LST.RDLOAD` (rule R198): no range is stated. -/
def execLstRdload (s : State) : Result :=
  callerRead s.lst s fun x => zext32 x.busload

/-- `LST.RDSTAT` (rule R199). -/
def execLstRdstat (s : State) : Result :=
  callerRead s.lst s fun x => zext32 x.ctrlstat

/-- `LST.RDRATE` (rule R200): all 32 bits. -/
def execLstRdrate (s : State) : Result :=
  callerRead s.lst s fun x => x.bitrate

end Sys2Proof.Machine
end

