-- ==== Sys2Proof/Machine/SystemOps.lean ====
section
/-! DEFINITION. The system operation (rule R210). There is no control transfer (rule R211). -/

namespace Sys2Proof.Machine

/-- `NOP` (rule R210): open to both agents, changes nothing and cannot fault. -/
def execNop (s : State) : Result :=
  finish s

end Sys2Proof.Machine
end

