-- ==== Sys2Proof/Machine/Dispatch.lean ====
section
/-! DEFINITION. Which meaning each instruction has: one arm per constructor of `Instr`. -/

namespace Sys2Proof.Machine

open Sys2Proof

/-- The effect of an operation on the state, asked by the agent in `s.agent` (rules R70 and R76). -/
def exec (i : Instr) (s : State) : Host.Outcome State Fault Refusal :=
  match i with
  | .nop => Sys2Proof.Machine.execNop s
  | .btSet btr0 btr1 => Sys2Proof.Machine.execBtSet btr0 btr1 s
  | .btPreset idx => Sys2Proof.Machine.execBtPreset idx s
  | .btPcia idx => Sys2Proof.Machine.execBtPcia idx s
  | .btRd0 => Sys2Proof.Machine.execBtRd0 s
  | .btRd1 => Sys2Proof.Machine.execBtRd1 s
  | .btU16 => Sys2Proof.Machine.execBtU16 s
  | .btBrp => Sys2Proof.Machine.execBtBrp s
  | .btTs1 => Sys2Proof.Machine.execBtTs1 s
  | .btTs2 => Sys2Proof.Machine.execBtTs2 s
  | .btTicks => Sys2Proof.Machine.execBtTicks s
  | .btEq btr0 btr1 => Sys2Proof.Machine.execBtEq btr0 btr1 s
  | .bt2Set slot a => Sys2Proof.Machine.execBt2Set slot a s
  | .bt2Pcia slot idx => Sys2Proof.Machine.execBt2Pcia slot idx s
  | .bt2Pifi slot idx => Sys2Proof.Machine.execBt2Pifi slot idx s
  | .bt2Pfd slot idx => Sys2Proof.Machine.execBt2Pfd slot idx s
  | .bt2Rdmode slot => Sys2Proof.Machine.execBt2Rdmode slot s
  | .bt2Rdpresc slot => Sys2Proof.Machine.execBt2Rdpresc slot s
  | .bt2Rdts1 slot => Sys2Proof.Machine.execBt2Rdts1 slot s
  | .bt2Rdts2 slot => Sys2Proof.Machine.execBt2Rdts2 slot s
  | .bt2Rdsjw slot => Sys2Proof.Machine.execBt2Rdsjw slot s
  | .bt2Rdtdo slot => Sys2Proof.Machine.execBt2Rdtdo slot s
  | .bt2Ticks slot => Sys2Proof.Machine.execBt2Ticks slot s
  | .bt2Eq slot a => Sys2Proof.Machine.execBt2Eq slot a s
  | .fdpSet a b => Sys2Proof.Machine.execFdpSet a b s
  | .fdpSingle a => Sys2Proof.Machine.execFdpSingle a s
  | .fdpPcia idx => Sys2Proof.Machine.execFdpPcia idx s
  | .fdpPshort idx => Sys2Proof.Machine.execFdpPshort idx s
  | .fdpPlong idx => Sys2Proof.Machine.execFdpPlong idx s
  | .cstLd opmode busload ctrlstat btr0 btr1 => Sys2Proof.Machine.execCstLd opmode busload ctrlstat btr0 btr1 s
  | .cst2Ld opmode exmode busload ctrlstat a b => Sys2Proof.Machine.execCst2Ld opmode exmode busload ctrlstat a b s
  | .lstLd opmode busload ctrlstat linrate => Sys2Proof.Machine.execLstLd opmode busload ctrlstat linrate s
  | .cstDec => Sys2Proof.Machine.execCstDec s
  | .cstRdop => Sys2Proof.Machine.execCstRdop s
  | .cstRdload => Sys2Proof.Machine.execCstRdload s
  | .cstRdstat => Sys2Proof.Machine.execCstRdstat s
  | .cstGetbt => Sys2Proof.Machine.execCstGetbt s
  | .cst2Dec => Sys2Proof.Machine.execCst2Dec s
  | .cst2Rdop => Sys2Proof.Machine.execCst2Rdop s
  | .cst2Rdex => Sys2Proof.Machine.execCst2Rdex s
  | .cst2Rdload => Sys2Proof.Machine.execCst2Rdload s
  | .cst2Rdstat => Sys2Proof.Machine.execCst2Rdstat s
  | .cst2Getbt => Sys2Proof.Machine.execCst2Getbt s
  | .lstDec => Sys2Proof.Machine.execLstDec s
  | .lstRdop => Sys2Proof.Machine.execLstRdop s
  | .lstRdload => Sys2Proof.Machine.execLstRdload s
  | .lstRdstat => Sys2Proof.Machine.execLstRdstat s
  | .lstRdrate => Sys2Proof.Machine.execLstRdrate s

end Sys2Proof.Machine
end

