-- ==== Sys2Proof/Machine/Request.lean ====
section
/-! DEFINITION. How a request reaches BTLS (rules R44, R66, R67, R70, R240 and R241): the two ports, the order in which
waiting requests are taken, the reset input; and what happens to a request that decodes to no operation. -/

namespace Sys2Proof.Machine

/-- What a step takes: the reset input, nothing (BTLS waits, rule R242), or one request word. -/
inductive Taken where
  | reset (s : State)
  | idle (s : State)
  | request (w : ReqWord) (s : State)
deriving DecidableEq, Repr

/-- Reset (rules R240 and R241): every piece of state of rule R46 at its reset value, and no waiting request survives. The
count of past competitions is no state of BTLS and stays, so that no free value is used twice (log entry 5). -/
def State.afterReset (s : State) : State := { State.reset with arbCount := s.arbCount }

/-- The other agent. -/
def otherAgent : Agent → Agent
  | .caller => .driver
  | .driver => .caller

/-- Which agent's request is taken while both have one waiting, and the state with that decided. Either may be first, and
the requests of one agent may pass over a waiting one of the other any number of times (rule R67: the free
`Config.arbiter`, a fresh value each time the two come to compete), but not for ever (rule R249): that number is fixed when
the first of them is taken, counts down, and then the waiting request is taken. -/
def State.decideTie (s : State) : Agent × State :=
  match s.lead with
  | none =>
    ((Config.arbiter s.arbCount).1, { s with lead := some (Config.arbiter s.arbCount), arbCount := s.arbCount + 1 })
  | some (a, more + 1) => (a, { s with lead := some (a, more) })
  | some (a, 0) => (otherAgent a, { s with lead := none })

/-- What the next step takes. A port hands its requests over in the order they were issued (rule R67). -/
def State.take (s : State) : Taken :=
  if s.rst then .reset s.afterReset
  else
    match s.callerPort, s.driverPort with
    | [], [] => .idle { s with rsp := none }
    | c :: cs, [] => .request c { s with callerPort := cs, agent := .caller, lead := none }
    | [], d :: ds => .request d { s with driverPort := ds, agent := .driver, lead := none }
    | c :: cs, d :: ds =>
      match s.decideTie.1 with
      | .caller => .request c { s.decideTie.2 with callerPort := cs, agent := .caller }
      | .driver => .request d { s.decideTie.2 with driverPort := ds, agent := .driver }

/-- An illegal opcode (rules R77 and R222), from either agent and before any other check (rule R226). -/
def illegalRequest (s : State) : Result := raise .illop s

/-- An agent presents a request at its port, behind those it has already issued (rule R67). An input of BTLS: it may
happen between any two steps. -/
def State.present (s : State) (a : Agent) (w : ReqWord) : State :=
  match a with
  | .caller => { s with callerPort := s.callerPort ++ [w] }
  | .driver => { s with driverPort := s.driverPort ++ [w] }

/-- The reset input is asserted (rule R240). An input of BTLS: it may happen between any two steps. -/
def State.assertRst (s : State) : State := { s with rst := true }

/-- The agent that may issue the operation with a given opcode (rule R231); CALLER where either may. -/
def agentFor (op : Byte) : Agent :=
  if op = 0x40 ∨ op = 0x41 ∨ op = 0x42 then .driver else .caller

/-- Put a request where the next step takes it: at the head of its agent's port, with the other port empty and `rst` not
asserted, so that nothing else can be taken first. -/
def State.withRequest (s : State) (a : Agent) (w : ReqWord) : State :=
  match a with
  | .caller => { s with callerPort := w :: s.callerPort, driverPort := [], rst := false }
  | .driver => { s with callerPort := [], driverPort := w :: s.driverPort, rst := false }

end Sys2Proof.Machine
end

