-- ==== Sys2Proof/Machine/Step.lean ====
section
/-! DEFINITION. One step of BTLS: take what comes next, decode it, run it whole (rule R66). -/

namespace Sys2Proof.Machine

/-- One step (rules R44 and R66): the reset, one request with all its checks, writes and its response, or waiting. -/
def step (s : State) : Host.Outcome State Fault Refusal :=
  match s.take with
  | .reset t => .next t
  | .idle t => .next t
  | .request w t =>
    match decode w with
    | .ok i => exec i t
    | .error _ => illegalRequest t

/-- `s` with the request whose `nbits` low bits are `w` (zeros above) as the next one the step takes, issued by the agent
that may issue its operation (rule R231; log entry 23). -/
def State.withFetchWord (s : State) (nbits w : Nat) : State :=
  s.withRequest (agentFor (fieldsOf (requestOfTableWord nbits w)).op) (requestOfTableWord nbits w)

end Sys2Proof.Machine
end

