-- ==== Sys2Proof/Machine/Asm.lean ====
section
/-! DEFINITION. The assembler notation of rule R81 (how a line and its request word are written) and the
pseudo-operations of rule R82. Nothing in the step reads them. -/

namespace Sys2Proof.Machine

/-- A hexadecimal digit, capital letters as in 95_test_vectors.md section 2.9. -/
def hexDigit (n : Nat) : Char :=
  if n < 10 then Char.ofNat (48 + n) else Char.ofNat (55 + n)

/-- The request word as 76 hexadecimal digits, `REQ[303:300]` first (rule R81). -/
def hexDigits (w : ReqWord) : List Char :=
  (List.range 76).reverse.map fun k => hexDigit (w.toNat / 16 ^ k % 16)

/-- The `<agent>` letter of a line (rule R81). -/
def agentLetter : Agent → String
  | .caller => "C"
  | .driver => "D"

/-- The agent bit written apart from the word (rules R70 and R81). -/
def agentBit : Agent → BitVec 1
  | .caller => 0
  | .driver => 1

/-- A slot operand as written (rule R81). -/
def slotText : Slot → String
  | .s0 => "s0"
  | .s1 => "s1"

/-- An index operand as written (rule R81). -/
def idxText (k : Nat) : String := "#" ++ toString k

/-- A byte or word operand as written (rule R81): in decimal, DESIGN CHOICE among the spec's spellings (log entry 24). -/
def numText {n : Nat} (v : BitVec n) : String := toString v.toNat

/-- A tuple operand as written (rule R81). -/
def tupleText (v : BT2Val) : String :=
  "(" ++ ", ".intercalate [numText v.mode, numText v.presc, numText v.ts1, numText v.ts2, numText v.sjw,
    numText v.tdo] ++ ")"

/-- The mnemonic and the operands of an operation as written, in the order of rule R76's "operands" column. -/
def asmParts : Instr → String × List String
  | .nop => ("NOP", [])
  | .btSet btr0 btr1 => ("BT.SET", [numText btr0, numText btr1])
  | .btPreset idx => ("BT.PRESET", [idxText idx])
  | .btPcia idx => ("BT.PCIA", [idxText idx])
  | .btRd0 => ("BT.RD0", [])
  | .btRd1 => ("BT.RD1", [])
  | .btU16 => ("BT.U16", [])
  | .btBrp => ("BT.BRP", [])
  | .btTs1 => ("BT.TS1", [])
  | .btTs2 => ("BT.TS2", [])
  | .btTicks => ("BT.TICKS", [])
  | .btEq btr0 btr1 => ("BT.EQ", [numText btr0, numText btr1])
  | .bt2Set slot a => ("BT2.SET", [slotText slot, tupleText a])
  | .bt2Pcia slot idx => ("BT2.PCIA", [slotText slot, idxText idx])
  | .bt2Pifi slot idx => ("BT2.PIFI", [slotText slot, idxText idx])
  | .bt2Pfd slot idx => ("BT2.PFD", [slotText slot, idxText idx])
  | .bt2Rdmode slot => ("BT2.RDMODE", [slotText slot])
  | .bt2Rdpresc slot => ("BT2.RDPRESC", [slotText slot])
  | .bt2Rdts1 slot => ("BT2.RDTS1", [slotText slot])
  | .bt2Rdts2 slot => ("BT2.RDTS2", [slotText slot])
  | .bt2Rdsjw slot => ("BT2.RDSJW", [slotText slot])
  | .bt2Rdtdo slot => ("BT2.RDTDO", [slotText slot])
  | .bt2Ticks slot => ("BT2.TICKS", [slotText slot])
  | .bt2Eq slot a => ("BT2.EQ", [slotText slot, tupleText a])
  | .fdpSet a b => ("FDP.SET", [tupleText a, tupleText b])
  | .fdpSingle a => ("FDP.SINGLE", [tupleText a])
  | .fdpPcia idx => ("FDP.PCIA", [idxText idx])
  | .fdpPshort idx => ("FDP.PSHORT", [idxText idx])
  | .fdpPlong idx => ("FDP.PLONG", [idxText idx])
  | .cstLd opmode busload ctrlstat btr0 btr1 =>
      ("CST.LD", [numText opmode, numText busload, numText ctrlstat, numText btr0, numText btr1])
  | .cst2Ld opmode exmode busload ctrlstat a b =>
      ("CST2.LD", [numText opmode, numText exmode, numText busload, numText ctrlstat, tupleText a, tupleText b])
  | .lstLd opmode busload ctrlstat linrate =>
      ("LST.LD", [numText opmode, numText busload, numText ctrlstat, numText linrate])
  | .cstDec => ("CST.DEC", [])
  | .cstRdop => ("CST.RDOP", [])
  | .cstRdload => ("CST.RDLOAD", [])
  | .cstRdstat => ("CST.RDSTAT", [])
  | .cstGetbt => ("CST.GETBT", [])
  | .cst2Dec => ("CST2.DEC", [])
  | .cst2Rdop => ("CST2.RDOP", [])
  | .cst2Rdex => ("CST2.RDEX", [])
  | .cst2Rdload => ("CST2.RDLOAD", [])
  | .cst2Rdstat => ("CST2.RDSTAT", [])
  | .cst2Getbt => ("CST2.GETBT", [])
  | .lstDec => ("LST.DEC", [])
  | .lstRdop => ("LST.RDOP", [])
  | .lstRdload => ("LST.RDLOAD", [])
  | .lstRdstat => ("LST.RDSTAT", [])
  | .lstRdrate => ("LST.RDRATE", [])

/-- A line `<agent>: <MNEMONIC> <operands>` (rule R81). -/
def asmLine (a : Agent) (i : Instr) : String :=
  let parts := asmParts i
  agentLetter a ++ ": " ++ parts.1 ++ (if parts.2.isEmpty then "" else " " ++ ", ".intercalate parts.2)

/-- The pseudo-operations of rule R82. The eight CiA ones of `BT2` take their position in the order 10, 20, 50, 125, 250,
500, 800, 1000. -/
inductive Pseudo where
  | btCia10k
  | btCia20k
  | btCia50k
  | btK100
  | btCia125k
  | btCia250k
  | btCia500k
  | btCia800k
  | btCia1000k
  | bt2Cia10k (slot : Slot)
  | bt2Cia20k (slot : Slot)
  | bt2Cia50k (slot : Slot)
  | bt2Cia125k (slot : Slot)
  | bt2Cia250k (slot : Slot)
  | bt2Cia500k (slot : Slot)
  | bt2Cia800k (slot : Slot)
  | bt2Cia1000k (slot : Slot)
  | bt2Ifi1000k (slot : Slot)
  | bt2Canfd1000k (slot : Slot)
deriving DecidableEq, Repr

/-- The one real operation a pseudo-operation stands for (rule R82). -/
def expand : Pseudo → Instr
  | .btCia10k => .btPreset 0
  | .btCia20k => .btPreset 1
  | .btCia50k => .btPreset 2
  | .btK100 => .btPreset 3
  | .btCia125k => .btPreset 4
  | .btCia250k => .btPreset 5
  | .btCia500k => .btPreset 6
  | .btCia800k => .btPreset 7
  | .btCia1000k => .btPreset 8
  | .bt2Cia10k slot => .bt2Pcia slot 0
  | .bt2Cia20k slot => .bt2Pcia slot 1
  | .bt2Cia50k slot => .bt2Pcia slot 2
  | .bt2Cia125k slot => .bt2Pcia slot 3
  | .bt2Cia250k slot => .bt2Pcia slot 4
  | .bt2Cia500k slot => .bt2Pcia slot 5
  | .bt2Cia800k slot => .bt2Pcia slot 6
  | .bt2Cia1000k slot => .bt2Pcia slot 7
  | .bt2Ifi1000k slot => .bt2Pifi slot 0
  | .bt2Canfd1000k slot => .bt2Pfd slot idxCanfd1000k

end Sys2Proof.Machine
end

