-- ==== Sys2Proof/Machine/Outputs.lean ====
section
/-! DEFINITION. The outputs BTLS drives continuously from its state (rule R42); they are no state themselves. -/

namespace Sys2Proof.Machine

/-- The outputs of rule R42. Beside a valid output at 0 the data outputs are unspecified, so they are no value here
(DEDUCED, safe: log entry 7). The snapshot registers have no outputs. -/
structure Outputs where
  oRes     : Word
  oErr     : BitVec 3
  oBtV     : Bool
  oBtBtr0  : Option Byte
  oBtBtr1  : Option Byte
  oFdpV    : Bool × Bool
  oFdpMode : Option Byte × Option Byte
  oFdpPresc : Option Word × Option Word
  oFdpTs1  : Option Half × Option Half
  oFdpTs2  : Option Half × Option Half
  oFdpSjw  : Option Half × Option Half
  oFdpTdo  : Option Half × Option Half
deriving DecidableEq, Repr

/-- `(o_fdp_x[0], o_fdp_x[1])` for a field `x` of the two slots. -/
def State.fdpOut {α : Type} (s : State) (field : BT2Val → α) : Option α × Option α :=
  (s.bt2s0.map field, s.bt2s1.map field)

/-- The outputs of a state (rule R42). -/
def State.outputs (s : State) : Outputs where
  oRes      := s.res
  oErr      := s.err
  oBtV      := s.bt.isSome
  oBtBtr0   := s.bt.map (·.btr0)
  oBtBtr1   := s.bt.map (·.btr1)
  oFdpV     := (s.bt2s0.isSome, s.bt2s1.isSome)
  oFdpMode  := s.fdpOut (·.mode)
  oFdpPresc := s.fdpOut (·.presc)
  oFdpTs1   := s.fdpOut (·.ts1)
  oFdpTs2   := s.fdpOut (·.ts2)
  oFdpSjw   := s.fdpOut (·.sjw)
  oFdpTdo   := s.fdpOut (·.tdo)

end Sys2Proof.Machine
end

