-- ==== Sys2Proof/Safety.lean ====
section
/-! DEFINITION. The terms the claims about BTLS are stated in: how an operation ends, what its rule says, who may issue it,
which check it can fail, and the invariants a step keeps. Written from the rules, apart from the operations of
Machine/Ops.lean, so that a claim compares the two. -/

namespace Sys2Proof.Machine

/-! ## How an operation ends -/

/-- `s` after an operation that raised no fault: the response says so and shows `RES` (rules R80 and R221). -/
def State.done (s : State) : State := { s with rsp := some { agent := s.agent, fault := 0, res := s.res } }

/-- `s` after an operation that raised the fault with this code (rule R221). -/
def State.faulted (s : State) (code : BitVec 3) : State :=
  { s with
    err := if s.err = 0 then code else s.err
    rsp := some { agent := s.agent, fault := code, res := s.res } }

/-! ## What the rule of an operation says -/

/-- The opcode of a request word (rule R71). -/
def opcodeNat (w : ReqWord) : Nat := w.toNat % 256

/-- The rule of a CALLER operation with opcode `op` that reads no register: it does `effect`, or raises `PRIV` for a
DRIVER. -/
def CallerWriteRule (op : Nat) (i : Instr) (effect : State → State) : Prop :=
  opcodeNat (encode i) = op ∧
  ∀ s : State,
    (s.agent = .caller → exec i s = .next (effect s).done) ∧
    (s.agent = .driver → exec i s = .next (s.faulted 2))

/-- The rule of a snapshot load with opcode `op`: it does `effect`, or raises `PRIV` for a CALLER. -/
def DriverLoadRule (op : Nat) (i : Instr) (effect : State → State) : Prop :=
  opcodeNat (encode i) = op ∧
  ∀ s : State,
    (s.agent = .driver → exec i s = .next (effect s).done) ∧
    (s.agent = .caller → exec i s = .next (s.faulted 2))

/-- The rule of a preset load with opcode `op` from a table of a given length: it writes the entry, raises `BADIDX` at or
past the length, or raises `PRIV` for a DRIVER. -/
def PresetRule {α : Type} (op : Nat) (i : Nat → Instr) (length : Nat) (entry : Nat → α) (write : State → α → State) : Prop :=
  ∀ idx : Nat,
    opcodeNat (encode (i idx)) = op ∧
    ∀ s : State,
      (s.agent = .caller → idx < length → exec (i idx) s = .next (write s (entry idx)).done) ∧
      (s.agent = .caller → length ≤ idx → exec (i idx) s = .next (s.faulted 3)) ∧
      (s.agent = .driver → exec (i idx) s = .next (s.faulted 2))

/-- The rule of an operation with opcode `op` that reads the holding register `reg`: it does `effect` with its data, raises
`NOVAL` where the valid bit is 0, or raises `PRIV` for a DRIVER. -/
def UseRule {α : Type} (op : Nat) (i : Instr) (reg : State → Option α) (effect : State → α → State) : Prop :=
  opcodeNat (encode i) = op ∧
  ∀ s : State,
    (∀ data, s.agent = .caller → reg s = some data → exec i s = .next (effect s data).done) ∧
    (s.agent = .caller → reg s = none → exec i s = .next (s.faulted 4)) ∧
    (s.agent = .driver → exec i s = .next (s.faulted 2))

/-- The rule of a read-type operation: `RES` takes a function of the register's data, and nothing else changes. -/
def ReadRule {α : Type} (op : Nat) (i : Instr) (reg : State → Option α) (value : α → Word) : Prop :=
  UseRule op i reg fun s data => { s with res := value data }

/-! ## Who may issue an operation, what it reads and writes, and which check it can fail -/

/-- The six holding registers (rule R20). -/
inductive Reg where
  | bt
  | bt2 (slot : Slot)
  | cst
  | cst2
  | lst
deriving DecidableEq, Repr

/-- The valid bit of a holding register (rule R39). -/
def State.valid (s : State) : Reg → Bool
  | .bt => s.bt.isSome
  | .bt2 k => (s.bt2 k).isSome
  | .cst => s.cst.isSome
  | .cst2 => s.cst2.isSome
  | .lst => s.lst.isSome

/-- A holding register, data and valid bit, is the same in two states. -/
def Reg.Same (s t : State) : Reg → Prop
  | .bt => t.bt = s.bt
  | .bt2 k => t.bt2 k = s.bt2 k
  | .cst => t.cst = s.cst
  | .cst2 => t.cst2 = s.cst2
  | .lst => t.lst = s.lst

/-- A row of the tables of rules R20, R76 and R231: the one agent that may issue the operation (none: either), whether it
is read-type, the register it reads, the registers it writes, and for a preset load its index and its table's length. -/
structure OpInfo where
  agent    : Option Agent
  readType : Bool
  reads    : Option Reg
  writes   : List Reg
  preset   : Option (Nat × Nat)
deriving DecidableEq, Repr

/-- A CALLER operation that writes registers and reads none. -/
def infoWrite (writes : List Reg) : OpInfo := ⟨some .caller, false, none, writes, none⟩

/-- A preset load. -/
def infoPreset (writes : List Reg) (idx length : Nat) : OpInfo := ⟨some .caller, false, none, writes, some (idx, length)⟩

/-- A read-type operation. -/
def infoRead (reg : Reg) : OpInfo := ⟨some .caller, true, some reg, [], none⟩

/-- A copy of a snapshot's bit rates. -/
def infoCopy (reg : Reg) (writes : List Reg) : OpInfo := ⟨some .caller, false, some reg, writes, none⟩

/-- A snapshot load. -/
def infoLoad (reg : Reg) : OpInfo := ⟨some .driver, false, none, [reg], none⟩

/-- Both slots (rule R62). -/
def bothSlots : List Reg := [.bt2 .s0, .bt2 .s1]

/-- What rules R20, R76, R224 and R231 say of each operation. -/
def infoOf : Instr → OpInfo
  | .nop => ⟨none, false, none, [], none⟩
  | .btSet _ _ => infoWrite [.bt]
  | .btPreset idx => infoPreset [.bt] idx 9
  | .btPcia idx => infoPreset [.bt] idx 8
  | .btRd0 => infoRead .bt
  | .btRd1 => infoRead .bt
  | .btU16 => infoRead .bt
  | .btBrp => infoRead .bt
  | .btTs1 => infoRead .bt
  | .btTs2 => infoRead .bt
  | .btTicks => infoRead .bt
  | .btEq _ _ => infoRead .bt
  | .bt2Set k _ => infoWrite [.bt2 k]
  | .bt2Pcia k idx => infoPreset [.bt2 k] idx 8
  | .bt2Pifi k idx => infoPreset [.bt2 k] idx 7
  | .bt2Pfd k idx => infoPreset [.bt2 k] idx nCanfd
  | .bt2Rdmode k => infoRead (.bt2 k)
  | .bt2Rdpresc k => infoRead (.bt2 k)
  | .bt2Rdts1 k => infoRead (.bt2 k)
  | .bt2Rdts2 k => infoRead (.bt2 k)
  | .bt2Rdsjw k => infoRead (.bt2 k)
  | .bt2Rdtdo k => infoRead (.bt2 k)
  | .bt2Ticks k => infoRead (.bt2 k)
  | .bt2Eq k _ => infoRead (.bt2 k)
  | .fdpSet _ _ => infoWrite bothSlots
  | .fdpSingle _ => infoWrite bothSlots
  | .fdpPcia idx => infoPreset bothSlots idx 8
  | .fdpPshort idx => infoPreset bothSlots idx nShort
  | .fdpPlong idx => infoPreset bothSlots idx nLong
  | .cstLd _ _ _ _ _ => infoLoad .cst
  | .cst2Ld _ _ _ _ _ _ => infoLoad .cst2
  | .lstLd _ _ _ _ => infoLoad .lst
  | .cstDec => infoRead .cst
  | .cstRdop => infoRead .cst
  | .cstRdload => infoRead .cst
  | .cstRdstat => infoRead .cst
  | .cstGetbt => infoCopy .cst [.bt]
  | .cst2Dec => infoRead .cst2
  | .cst2Rdop => infoRead .cst2
  | .cst2Rdex => infoRead .cst2
  | .cst2Rdload => infoRead .cst2
  | .cst2Rdstat => infoRead .cst2
  | .cst2Getbt => infoCopy .cst2 bothSlots
  | .lstDec => infoRead .lst
  | .lstRdop => infoRead .lst
  | .lstRdload => infoRead .lst
  | .lstRdstat => infoRead .lst
  | .lstRdrate => infoRead .lst

/-- Whether the agent may issue the operation (rule R231). -/
def mayIssue (a : Agent) (i : Instr) : Bool := (infoOf i).agent.all (· == a)

/-- Whether the index of a preset load is in its table (rule R224); true of every other operation. -/
def indexOk (i : Instr) : Bool := (infoOf i).preset.all fun p => decide (p.1 < p.2)

/-- Whether the holding register the operation reads is valid (rule R225); true of an operation that reads none. -/
def readsValid (s : State) (i : Instr) : Bool := (infoOf i).reads.all s.valid

/-- The fault code of the operation by the order of checks of rule R226: agent, then index, then valid bit. -/
def faultOf (i : Instr) (s : State) : BitVec 3 :=
  if mayIssue s.agent i = false then 2
  else if indexOk i = false then 3
  else if readsValid s i = false then 4
  else 0

/-- The `BT2.*` operation uses the slot (rule R133): it reads that slot's register or writes it alone. -/
def usesSlot (i : Instr) (k : Slot) : Prop := (infoOf i).reads = some (.bt2 k) ∨ (infoOf i).writes = [.bt2 k]

/-- The 48 assigned opcodes (rule R76). -/
def assignedOpcodes : List Nat :=
  [0x00] ++ List.range' 0x10 11 ++ List.range' 0x20 12 ++ List.range' 0x30 5 ++ List.range' 0x40 3
    ++ List.range' 0x50 5 ++ List.range' 0x60 6 ++ List.range' 0x70 5

/-! ## Safe states and runs -/

/-- The holding registers of two states agree (rule R20 without `RES` and `ERR`). -/
def SameHolding (s t : State) : Prop :=
  t.bt = s.bt ∧ t.bt2s0 = s.bt2s0 ∧ t.bt2s1 = s.bt2s1 ∧ t.cst = s.cst ∧ t.cst2 = s.cst2 ∧ t.lst = s.lst

/-- The requests still waiting and the reset input agree. -/
def SameInputs (s t : State) : Prop :=
  t.callerPort = s.callerPort ∧ t.driverPort = s.driverPort ∧ t.rst = s.rst

/-- What holds of every state BTLS can be in: `ERR` is one of the codes 0 to 4 (93_implementation_defined.md U14; log entry 20), and the
last response shows a code of those, the value of `RES` (rule R80), and a fault only if `ERR` records one (rule R41). -/
def State.Inv (s : State) : Prop :=
  s.err.toNat ≤ 4 ∧
  ∀ r, s.rsp = some r → r.fault.toNat ≤ 4 ∧ r.res = s.res ∧ r.agent = s.agent ∧ (r.fault ≠ 0 → s.err ≠ 0)

/-- A request keeps the DRIVER's duty on the CAN bus load (rule R234 (b); log entry 22). -/
def busloadOk (w : ReqWord) : Prop :=
  match decode w with
  | .ok (.cstLd _ busload _ _ _) => busload.toNat ≤ 100
  | .ok (.cst2Ld _ _ busload _ _ _) => busload.toNat ≤ 100
  | _ => True

/-- The CAN snapshots hold a bus load of at most 100, and so does every load the DRIVER has waiting. -/
def State.BusloadDuty (s : State) : Prop :=
  (∀ x, s.cst = some x → x.busload.toNat ≤ 100) ∧
  (∀ x, s.cst2 = some x → x.busload.toNat ≤ 100) ∧
  (∀ w ∈ s.driverPort, busloadOk w)

/-- What a request word does to a state it has been taken from: its operation, or `ILLOP` (rules R44 and R77). -/
def runWord (w : ReqWord) (s : State) : Result :=
  match decode w with
  | .ok i => exec i s
  | .error _ => illegalRequest s

/-! ## Runs of the two agents -/

/-- The requests an agent has waiting at its port, oldest first. -/
def State.port (s : State) : Agent → List ReqWord
  | .caller => s.callerPort
  | .driver => s.driverPort

/-- `s` once an agent's request has been taken, with `rest` left at its port and no request passed over. -/
def State.taking (s : State) (a : Agent) (rest : List ReqWord) : State :=
  match a with
  | .caller => { s with callerPort := rest, agent := .caller, lead := none }
  | .driver => { s with driverPort := rest, agent := .driver, lead := none }

/-- Run a list of one agent's requests in order, each taken off its port (rules R44 and R66). -/
def runRequests (a : Agent) : List ReqWord → State → Result
  | [], s => .next s
  | w :: ws, s =>
    match runWord w (s.taking a ws) with
    | .next t => runRequests a ws t
    | .fault f => .fault f
    | .refused r => .refused r

/-- The words of one agent in a list of requests of both, in order. -/
def wordsOf (a : Agent) (requests : List (Agent × ReqWord)) : List ReqWord :=
  requests.filterMap fun q => if q.1 = a then some q.2 else none

/-- Requests of either agent are presented, one after the other. -/
def State.presentAll (s : State) (requests : List (Agent × ReqWord)) : State :=
  requests.foldl (fun u q => u.present q.1 q.2) s

/-- A run of one step for each entry of a list, the entry's requests being presented before the step. -/
def runPresenting : List (List (Agent × ReqWord)) → State → Result
  | [], s => .next s
  | requests :: later, s =>
    match step (s.presentAll requests) with
    | .next t => runPresenting later t
    | .fault f => .fault f
    | .refused r => .refused r

/-- The registers of `t` are those of `s` after the requests of a list, one after the other, each run whole and answered to
the agent that issued it (rules R44, R66 and R80). -/
def RunsSerially (s : State) : List (Agent × ReqWord) → State → Prop
  | [], t => SameHolding s t ∧ t.res = s.res ∧ t.err = s.err
  | (a, w) :: later, t =>
    ∃ u r, runWord w { s with agent := a } = .next u ∧ u.rsp = some r ∧ r.agent = a ∧ RunsSerially u later t

end Sys2Proof.Machine
end

