-- ==== Sys2Proof/Certificates/Slice0/Obligations.lean ====
section
/-! DEFINITION. The statements about BTLS for the provers. Each docstring names the rules a statement formalises, or says
that it rests on a choice of the model and names the log entry. -/

open Sys2Proof Sys2Proof.Machine

/-! ## Encoding and decoding -/

/-- Every bit of an encoding is kept: the decoder gives back every well-formed instruction, whatever its operands
(rules R72, R75, R76 and R83). -/
def Obligations.DecodeEncodeRoundTrip : Prop :=
  ∀ i : Instr, WellFormed i = true → decode (encode i) = .ok i

/-- What the decoder answers is well formed (rules R74 and R83). -/
def Obligations.DecodedInstructionIsWellFormed : Prop :=
  ∀ (w : ReqWord) (i : Instr), decode w = .ok i → WellFormed i = true

/-- A request word decodes to an operation exactly when its opcode is assigned; 48 of the 256 opcodes are, and 208 are not
(rules R76, R77 and R83). -/
def Obligations.DecodesExactlyTheAssignedOpcodes : Prop :=
  (∀ w : ReqWord, (∃ i, decode w = .ok i) ↔ opcodeNat w ∈ assignedOpcodes) ∧
  assignedOpcodes.length = 48 ∧
  ((List.range 256).filter fun op => decide (op ∉ assignedOpcodes)).length = 208

/-- Two request words that agree on the fields the operation uses (rule R72's "used by" column) decode alike, whatever
stands in the others. Rule R73's last sentence says more of read-type operations than rules R111 and R131 allow: log entry
17. -/
def Obligations.DecodeIgnoresUnusedFields : Prop :=
  ∀ w w' : ReqWord,
    w &&& usedBits (BitVec.ofNat 8 (opcodeNat w)) = w' &&& usedBits (BitVec.ofNat 8 (opcodeNat w)) → decode w = decode w'

/-- `REQ[15:13]` has no effect: words that differ there only decode alike (rule R84). -/
def Obligations.ReservedRequestBitsIgnored : Prop :=
  ∀ w w' : ReqWord, (∀ k, k ≠ 13 → k ≠ 14 → k ≠ 15 → w.getLsbD k = w'.getLsbD k) → decode w = decode w'

/-- Words of 95_test_vectors.md section 2.9 (and V-ENC-1's junk word) decode to the lines they stand for. -/
def Obligations.SpecRequestWordsDecode : Prop :=
  decode 0x0 = .ok .nop ∧
  decode 0x1C010010 = .ok (.btSet 0x01 0x1C) ∧
  decode 0x0A11 = .ok (.btPreset 5) ∧
  decode 0x0A12 = .ok (.btPcia 5) ∧
  decode 0x4000040004000F0000000401000000000000000000000120 = .ok (.bt2Set .s1 ⟨0x01, 4, 15, 4, 4, 64⟩) ∧
  decode 0x1321 = .ok (.bt2Pcia .s1 9) ∧
  decode 0x0640019001900640000F424000000000010002000E0007A12000000000000000000000000030 =
    .ok (.fdpSet ⟨0x00, 500000, 14, 2, 1, 0⟩ ⟨0x00, 1000000, 1600, 400, 400, 1600⟩) ∧
  decode 0x0925002D1C010040 = .ok (.cstLd 0x2D 37 0x09 0x01 0x1C) ∧
  decode 0x4B00100C000100000042 = .ok (.lstLd 0x01 12 0x10 19200) ∧
  decode 0x789A3456F012BCDE3456789A12FFFFFFFFFFFFFFFFFFFFFFFFFFDEADBEEF000000FF55AAFF19 = .ok .btTicks

/-- The whole table of rule R82, each pseudo-operation with its own index, and every expansion is a well-formed operation
with an index inside its table. -/
def Obligations.PseudoOperationsExpandInRange : Prop :=
  expand .btCia10k = .btPreset 0 ∧ expand .btCia20k = .btPreset 1 ∧ expand .btCia50k = .btPreset 2 ∧
  expand .btK100 = .btPreset 3 ∧ expand .btCia125k = .btPreset 4 ∧ expand .btCia250k = .btPreset 5 ∧
  expand .btCia500k = .btPreset 6 ∧ expand .btCia800k = .btPreset 7 ∧ expand .btCia1000k = .btPreset 8 ∧
  (∀ k : Slot,
    expand (.bt2Cia10k k) = .bt2Pcia k 0 ∧ expand (.bt2Cia20k k) = .bt2Pcia k 1 ∧
    expand (.bt2Cia50k k) = .bt2Pcia k 2 ∧ expand (.bt2Cia125k k) = .bt2Pcia k 3 ∧
    expand (.bt2Cia250k k) = .bt2Pcia k 4 ∧ expand (.bt2Cia500k k) = .bt2Pcia k 5 ∧
    expand (.bt2Cia800k k) = .bt2Pcia k 6 ∧ expand (.bt2Cia1000k k) = .bt2Pcia k 7 ∧
    expand (.bt2Ifi1000k k) = .bt2Pifi k 0 ∧ expand (.bt2Canfd1000k k) = .bt2Pfd k idxCanfd1000k) ∧
  ∀ p : Pseudo, WellFormed (expand p) = true ∧ indexOk (expand p) = true

/-! ## The step -/

/-- A step runs the decoded request: with `rst` not asserted and one agent's port empty, the step takes the head of the
other port, and is `exec` of what it decodes to, with that agent beside it (rules R44, R66 and R70). That no request is then
passed over (`lead` is `none`) is bookkeeping of the model: log entry 2. -/
def Obligations.StepRunsTheDecodedRequest : Prop :=
  ∀ (s : State) (w : ReqWord) (ws : List ReqWord) (i : Instr), s.rst = false → decode w = .ok i →
    (s.callerPort = w :: ws → s.driverPort = [] →
      step s = exec i { s with callerPort := ws, agent := .caller, lead := none }) ∧
    (s.callerPort = [] → s.driverPort = w :: ws →
      step s = exec i { s with driverPort := ws, agent := .driver, lead := none })

/-- `withFetchWord` makes the very next step run the word's instruction, for the agent that may issue it. The agent and the
port it uses are the model's choice: log entry 23. -/
def Obligations.FetchWordRunsNext : Prop :=
  ∀ (s : State) (nbits w : Nat) (i : Instr), decodeTableWord nbits w = some i →
    ∃ t : State, step (s.withFetchWord nbits w) = exec i t ∧ mayIssue t.agent i = true ∧ SameHolding s t ∧
      t.res = s.res ∧ t.err = s.err

/-- When both agents have a request waiting, one of the two is taken, whatever the two words are, with nothing else changed
but the model's own two fields that decide such ties (rule R67; which one is free: log entry 2). -/
def Obligations.TieTakesOneOfTheTwoRequests : Prop :=
  ∀ (s : State) (c d : ReqWord) (cs ds : List ReqWord), s.rst = false →
    s.callerPort = c :: cs → s.driverPort = d :: ds →
    ∃ (count : Nat) (lead : Option (Agent × Nat)),
      step s = runWord c { s with callerPort := cs, agent := .caller, arbCount := count, lead := lead } ∨
      step s = runWord d { s with driverPort := ds, agent := .driver, arbCount := count, lead := lead }

/-- Each agent's requests run in the order it issued them (rules R66 and R67). While the other agent has none, a run over a
port's requests is the operations one after the other. With requests of both presented at any time between the steps, a run
is some merge of the two agents' requests, run one after the other and each answered: the merge holds each agent's
requests in the order they were issued, and what it does not hold is still waiting, in that order too. -/
def Obligations.RequestsRunInIssueOrder : Prop :=
  (∀ (ws : List ReqWord) (s : State), s.rst = false →
    (s.callerPort = ws → s.driverPort = [] → Sys2Proof.core.run ws.length s = runRequests .caller ws s) ∧
    (s.callerPort = [] → s.driverPort = ws → Sys2Proof.core.run ws.length s = runRequests .driver ws s)) ∧
  ∀ (presented : List (List (Agent × ReqWord))) (s : State), s.rst = false →
    ∃ (merge : List (Agent × ReqWord)) (t : State),
      runPresenting presented s = .next t ∧ RunsSerially s merge t ∧
      ∀ a : Agent, wordsOf a merge ++ t.port a = s.port a ++ wordsOf a presented.flatten

/-- With nothing waiting and `rst` not asserted, a step changes no state of BTLS: it waits (rules R229 and R242). That no
response stands afterwards is the model's choice: log entry 4. -/
def Obligations.StepWithNothingWaitingWaits : Prop :=
  ∀ s : State, s.rst = false → s.callerPort = [] → s.driverPort = [] → step s = .next { s with rsp := none }

/-- Every step answers a next state, and a step that finds a request waiting while `rst` is not asserted answers it, in any
state, `ERR` at any value (rule R249). -/
def Obligations.EveryWaitingRequestIsAnswered : Prop :=
  ∀ s : State, ∃ t, step s = .next t ∧
    (s.rst = false → (s.callerPort ≠ [] ∨ s.driverPort ≠ []) →
      ∃ r, t.rsp = some r ∧ r.res = t.res ∧
        t.callerPort.length + t.driverPort.length + 1 = s.callerPort.length + s.driverPort.length)

/-- Nothing hangs: after as many steps as requests wait, both ports are empty, however the two agents interleave
(rule R249; `EveryPresentedRequestIsTaken` says the same while further requests keep arriving). -/
def Obligations.WaitingRequestsDrain : Prop :=
  ∀ s : State, s.rst = false →
    ∃ t, Sys2Proof.core.run (s.callerPort.length + s.driverPort.length) s = .next t ∧
      t.callerPort = [] ∧ t.driverPort = []

/-- An illegal opcode raises `ILLOP` from either agent, whatever the other fields, and changes nothing else
(rules R77, R221 and R222): as the head of the one port that holds requests, and as a word on its own, which is what the
step does with it where both agents have one waiting (`TieTakesOneOfTheTwoRequests`). That `lead` is `none` afterwards is
bookkeeping of the model: log entry 2. -/
def Obligations.IllegalOpcodeRaisesIllop : Prop :=
  ∀ (s : State) (w : ReqWord) (ws : List ReqWord), s.rst = false → opcodeNat w ∉ assignedOpcodes →
    (s.callerPort = w :: ws → s.driverPort = [] →
      step s = .next (State.faulted { s with callerPort := ws, agent := .caller, lead := none } 1)) ∧
    (s.callerPort = [] → s.driverPort = w :: ws →
      step s = .next (State.faulted { s with driverPort := ws, agent := .driver, lead := none } 1)) ∧
    ∀ u : State, runWord w u = .next (u.faulted 1)

/-! ## Reset -/

/-- Every piece of state after reset: six valid bits 0 with no data, `RES` 0, `ERR` 0 (rule R46). -/
def Obligations.ResetStateOfTheRegisters : Prop :=
  State.reset.bt = none ∧ State.reset.bt2s0 = none ∧ State.reset.bt2s1 = none ∧ State.reset.cst = none ∧
  State.reset.cst2 = none ∧ State.reset.lst = none ∧ State.reset.res = 0 ∧ State.reset.err = 0

/-- Asserting `rst` puts every register at its reset value, and a request not yet answered has no effect and gets no
response (rules R240 and R241). That the reset takes one step, and that this step drops both ports and releases `rst`, is
the model's choice: log entry 5. -/
def Obligations.ResetInputClearsStateAndDropsRequests : Prop :=
  ∀ s : State, ∃ t, step s.assertRst = .next t ∧
    SameHolding State.reset t ∧ t.res = 0 ∧ t.err = 0 ∧ t.callerPort = [] ∧ t.driverPort = [] ∧ t.rsp = none ∧ t.rst = false

/-- Reset is the only way to clear a valid bit or `ERR`: a step without `rst` keeps every valid bit that is 1, and `ERR`
once it is not 0 (rules R39, R41 and R240). -/
def Obligations.OnlyResetClearsValidBitsAndErr : Prop :=
  ∀ s t : State, s.rst = false → step s = .next t →
    (s.bt.isSome → t.bt.isSome) ∧ (s.bt2s0.isSome → t.bt2s0.isSome) ∧ (s.bt2s1.isSome → t.bt2s1.isSome) ∧
    (s.cst.isSome → t.cst.isSome) ∧ (s.cst2.isSome → t.cst2.isSome) ∧ (s.lst.isSome → t.lst.isSome) ∧
    (s.err ≠ 0 → t.err = s.err)

/-- Immediately after reset, for the agent that may issue the operation and an index inside the table: every read-type
operation, `CST.GETBT` and `CST2.GETBT` raise `NOVAL`, and every other operation succeeds; the outputs are 0 (rule R244). -/
def Obligations.OperationsRightAfterReset : Prop :=
  (∀ (i : Instr) (a : Agent), mayIssue a i = true → indexOk i = true →
    ∃ t r, exec i { State.reset with agent := a } = .next t ∧ t.rsp = some r ∧
      r.fault = (if (infoOf i).reads.isSome then 4 else 0)) ∧
  State.reset.outputs.oRes = 0 ∧ State.reset.outputs.oErr = 0 ∧ State.reset.outputs.oBtV = false ∧
  State.reset.outputs.oFdpV = (false, false)

/-! ## Faults and agents -/

/-- The first check that fails decides the fault: agent, index, valid bit, in that order, each operation raising at most
one fault (rules R223 to R226 and R231). -/
def Obligations.FirstFailingCheckDecidesTheFault : Prop :=
  ∀ (i : Instr) (s : State), ∃ t r, exec i s = .next t ∧ t.rsp = some r ∧ r.agent = s.agent ∧ r.res = t.res ∧
    r.fault = faultOf i s

/-- An operation that raises a fault changes nothing but `ERR`, and `ERR` only where it held 0; the next request is taken
as usual (rules R221 and R227). -/
def Obligations.FaultChangesNothingButErr : Prop :=
  ∀ (i : Instr) (s : State), faultOf i s ≠ 0 → exec i s = .next (s.faulted (faultOf i s))

/-- `PRIV` answers exactly the requests of an agent that may not issue the operation (rules R223 and R231). -/
def Obligations.PrivAnswersExactlyTheWrongAgent : Prop :=
  ∀ (i : Instr) (s t : State) (r : Response), exec i s = .next t → t.rsp = some r →
    (r.fault = 2 ↔ mayIssue s.agent i = false)

/-- The snapshot registers change only through the DRIVER's three loads (rule R38). -/
def Obligations.OnlyDriverLoadsChangeSnapshots : Prop :=
  ∀ (i : Instr) (s t : State), exec i s = .next t →
    (t.cst = s.cst ∨ (s.agent = .driver ∧ ∃ o l c b0 b1, i = .cstLd o l c b0 b1 ∧ t.cst = some ⟨o, l, c, b0, b1⟩)) ∧
    (t.cst2 = s.cst2 ∨ (s.agent = .driver ∧ ∃ o e l c a b, i = .cst2Ld o e l c a b ∧ t.cst2 = some ⟨o, e, l, c, a, b⟩)) ∧
    (t.lst = s.lst ∨ (s.agent = .driver ∧ ∃ o l c r, i = .lstLd o l c r ∧ t.lst = some ⟨o, l, c, r⟩))

/-- The DRIVER cannot touch what the CALLER owns: no request of the DRIVER changes `BT`, the pair or `RES`
(rule R231). -/
def Obligations.DriverNeverChangesCallerRegisters : Prop :=
  ∀ (i : Instr) (s t : State), s.agent = .driver → exec i s = .next t →
    t.bt = s.bt ∧ t.bt2s0 = s.bt2s0 ∧ t.bt2s1 = s.bt2s1 ∧ t.res = s.res

/-- `ERR` keeps the first fault along every run without reset, whatever the requests (rule R41). -/
def Obligations.ErrKeepsTheFirstFaultAlongRuns : Prop :=
  ∀ (n : Nat) (s t : State), s.rst = false → s.err ≠ 0 → Sys2Proof.core.run n s = .next t → t.err = s.err

/-- Every step keeps the invariant: `ERR` is a code of rule R221, and the response agrees with `RES` and `ERR`. -/
def Obligations.StepKeepsInvariant : Prop :=
  ∀ s t : State, s.Inv → step s = .next t → t.Inv

/-- The reset state meets the invariant. -/
def Obligations.ResetMeetsInvariant : Prop := State.reset.Inv

/-- If every CAN load the DRIVER has waiting carries a bus load of at most 100 and the snapshots do, then so it stays
(rule R234 (b): a premise on the DRIVER, never enforced by BTLS). -/
def Obligations.StepKeepsBusloadDuty : Prop :=
  ∀ s t : State, s.BusloadDuty → step s = .next t → t.BusloadDuty

/-- The reset state keeps the bus-load duty. -/
def Obligations.ResetMeetsBusloadDuty : Prop := State.reset.BusloadDuty

/-! ## Reads and writes -/

/-- A read-type operation changes no holding register, no input, and not `ERR` where it succeeds; asked twice, it gives the
same result (rules R40 and R63). -/
def Obligations.ReadsChangeOnlyResAndRepeat : Prop :=
  ∀ (i : Instr) (s t : State), (infoOf i).readType = true → exec i s = .next t →
    SameHolding s t ∧ SameInputs s t ∧ (faultOf i s = 0 → t.err = s.err) ∧
    ∃ u, exec i t = .next u ∧ u.res = t.res ∧ SameHolding s u

/-- An operation that is not read-type leaves `RES` as it was (rule R40). -/
def Obligations.OnlyReadsWriteRes : Prop :=
  ∀ (i : Instr) (s t : State), (infoOf i).readType = false → exec i s = .next t → t.res = s.res

/-- A holding register changes only through the operations that rule R20 lists as its writers; such an operation, where it
raises no fault, leaves every register it writes valid, both slots together for a pair write (rules R20, R22, R39 and
R62). -/
def Obligations.HoldingRegistersHaveTheirWriters : Prop :=
  ∀ (i : Instr) (s t : State), exec i s = .next t →
    (∀ r : Reg, r ∉ (infoOf i).writes → Reg.Same s t r) ∧
    (faultOf i s = 0 → ∀ r ∈ (infoOf i).writes, t.valid r = true)

/-- The outputs are the registers: `o_res`, `o_err`, the valid outputs, and beside a valid output at 1 the data
(rule R42). Beside a valid output at 0 nothing is claimed. -/
def Obligations.OutputsShowTheRegisters : Prop :=
  ∀ s : State, s.outputs.oRes = s.res ∧ s.outputs.oErr = s.err ∧
    (s.outputs.oBtV = true ↔ ∃ b, s.bt = some b) ∧
    (∀ b, s.bt = some b → s.outputs.oBtBtr0 = some b.btr0 ∧ s.outputs.oBtBtr1 = some b.btr1) ∧
    (s.outputs.oFdpV.1 = true ↔ ∃ v, s.bt2s0 = some v) ∧ (s.outputs.oFdpV.2 = true ↔ ∃ v, s.bt2s1 = some v) ∧
    (∀ v, s.bt2s0 = some v → s.outputs.oFdpMode.1 = some v.mode ∧ s.outputs.oFdpPresc.1 = some v.presc ∧
      s.outputs.oFdpTs1.1 = some v.ts1 ∧ s.outputs.oFdpTs2.1 = some v.ts2 ∧ s.outputs.oFdpSjw.1 = some v.sjw ∧
      s.outputs.oFdpTdo.1 = some v.tdo) ∧
    (∀ v, s.bt2s1 = some v → s.outputs.oFdpMode.2 = some v.mode ∧ s.outputs.oFdpPresc.2 = some v.presc ∧
      s.outputs.oFdpTs1.2 = some v.ts1 ∧ s.outputs.oFdpTs2.2 = some v.ts2 ∧ s.outputs.oFdpSjw.2 = some v.sjw ∧
      s.outputs.oFdpTdo.2 = some v.tdo)

/-! ## The operations, family by family

Each rule below is an equation for the whole next state, so it also says that nothing else changes. -/

/-- `NOP` is the all-zero word; it completes for either agent in every state and changes no state: not `ERR`, not `RES`;
and it is the only operation that can never fault (rule R210). -/
def Obligations.NopChangesNothing : Prop :=
  encode .nop = 0 ∧ decode 0 = .ok .nop ∧ (∀ s : State, exec .nop s = .next s.done) ∧
  ∀ i : Instr, i ≠ .nop → ∃ s t r, exec i s = .next t ∧ t.rsp = some r ∧ r.fault ≠ 0

/-- `BT.SET` (rule R100). -/
def Obligations.BtSetLoadsThePair : Prop :=
  ∀ btr0 btr1 : Byte, CallerWriteRule 0x10 (.btSet btr0 btr1) fun s => { s with bt := some ⟨btr0, btr1⟩ }

/-- `BT.PRESET` and `BT.PCIA` load the entry of their tables or raise `BADIDX` (rules R101 and R102). -/
def Obligations.BtPresetsLoadTableEntries : Prop :=
  PresetRule 0x11 .btPreset 9 (fun k => presetBtr.getD k default) (fun s b => { s with bt := some b }) ∧
  PresetRule 0x12 .btPcia 8 (fun k => presetBtr.getD (ciaAll.getD k 0) default) (fun s b => { s with bt := some b })

/-- Six reads of the classic register: the two bytes, the packed 16 bits with BTR0 low, and the decoded fields
(rules R103 to R105 and R107 to R109). -/
def Obligations.BtReadsGiveTheDecodedFields : Prop :=
  ReadRule 0x13 .btRd0 State.bt (fun b => BitVec.ofNat 32 b.btr0.toNat) ∧
  ReadRule 0x14 .btRd1 State.bt (fun b => BitVec.ofNat 32 b.btr1.toNat) ∧
  ReadRule 0x15 .btU16 State.bt (fun b => BitVec.ofNat 32 (256 * b.btr1.toNat + b.btr0.toNat)) ∧
  ReadRule 0x16 .btBrp State.bt (fun b => BitVec.ofNat 32 (b.btr0.toNat % 64)) ∧
  ReadRule 0x17 .btTs1 State.bt (fun b => BitVec.ofNat 32 (b.btr1.toNat % 16)) ∧
  ReadRule 0x18 .btTs2 State.bt (fun b => BitVec.ofNat 32 (b.btr1.toNat / 16 % 8))

/-- `BT.TICKS` gives the bit time; for every pair it is even, at least 6 and at most 3200, so `RES` holds it without
wrap-around (rule R110). -/
def Obligations.BtTicksGivesAnEvenBoundedBitTime : Prop :=
  ReadRule 0x19 .btTicks State.bt (fun b => BitVec.ofNat 32 (ticks b)) ∧
  ∀ b : BTVal,
    ticks b = 2 * (b.btr0.toNat % 64 + 1) * (b.btr1.toNat % 16 + b.btr1.toNat / 16 % 8 + 3) ∧
    ticks b % 2 = 0 ∧ 6 ≤ ticks b ∧ ticks b ≤ 3200 ∧ (BitVec.ofNat 32 (ticks b)).toNat = ticks b

/-- `BT.EQ` compares the pair, all 16 bits of it (rule R111). -/
def Obligations.BtEqComparesTheRawPair : Prop :=
  ∀ btr0 btr1 : Byte, ReadRule 0x1A (.btEq btr0 btr1) State.bt (fun b => if b = ⟨btr0, btr1⟩ then 1 else 0)

/-- `BT.PCIA #k` is `BT.PRESET #k` for `k` = 0, 1, 2 and `BT.PRESET #(k+1)` for `k` = 3 to 7 (rules R52 and R102). -/
def Obligations.BtPciaSkipsThe100kPreset : Prop :=
  ∀ (s : State) (k : Nat), k < 8 → exec (.btPcia k) s = exec (.btPreset (if k < 3 then k else k + 1)) s

/-- `BT2.SET` (rule R120). -/
def Obligations.BtTwoSetLoadsOneSlot : Prop :=
  ∀ a : BT2Val,
    CallerWriteRule 0x20 (.bt2Set .s0 a) (fun s => { s with bt2s0 := some a }) ∧
    CallerWriteRule 0x20 (.bt2Set .s1 a) (fun s => { s with bt2s1 := some a })

/-- `BT2.PCIA`, `BT2.PIFI` and `BT2.PFD` load the entry of their tables into one slot or raise `BADIDX`
(rules R121 to R123). -/
def Obligations.BtTwoPresetsLoadTableEntries : Prop :=
  ∀ (op : Nat) (i : Slot → Nat → Instr) (table : List BT2Val) (length : Nat),
    (op, i, table, length) ∈
      [(0x21, Instr.bt2Pcia, presetCia2, 8), (0x22, Instr.bt2Pifi, presetIfi, 7),
       (0x23, Instr.bt2Pfd, presetCanfd, nCanfd)] →
    PresetRule op (i .s0) length (fun k => table.getD k default) (fun s v => { s with bt2s0 := some v }) ∧
    PresetRule op (i .s1) length (fun k => table.getD k default) (fun s v => { s with bt2s1 := some v })

/-- The six accessors give the six fields, and `BT2.TICKS` the sentinel 0 whatever the fields hold
(rules R124 to R129 and R132). -/
def Obligations.BtTwoReadsGiveTheFields : Prop :=
  ∀ k : Slot,
    ReadRule 0x24 (.bt2Rdmode k) (State.bt2 · k) (fun v => BitVec.ofNat 32 v.mode.toNat) ∧
    ReadRule 0x25 (.bt2Rdpresc k) (State.bt2 · k) (fun v => v.presc) ∧
    ReadRule 0x26 (.bt2Rdts1 k) (State.bt2 · k) (fun v => BitVec.ofNat 32 v.ts1.toNat) ∧
    ReadRule 0x27 (.bt2Rdts2 k) (State.bt2 · k) (fun v => BitVec.ofNat 32 v.ts2.toNat) ∧
    ReadRule 0x28 (.bt2Rdsjw k) (State.bt2 · k) (fun v => BitVec.ofNat 32 v.sjw.toNat) ∧
    ReadRule 0x29 (.bt2Rdtdo k) (State.bt2 · k) (fun v => BitVec.ofNat 32 v.tdo.toNat) ∧
    ReadRule 0x2A (.bt2Ticks k) (State.bt2 · k) (fun _ => 0)

/-- `BT2.EQ` compares all six fields (rule R131). -/
def Obligations.BtTwoEqComparesAllSixFields : Prop :=
  ∀ (k : Slot) (a : BT2Val), ReadRule 0x2B (.bt2Eq k a) (State.bt2 · k) (fun v => if v = a then 1 else 0)

/-- A `BT2.*` operation on one slot neither writes the other slot nor depends on it (rule R133 (c)). -/
def Obligations.SlotsAreIndependent : Prop :=
  ∀ (i : Instr) (s t u : State), exec i s = .next t →
    (usesSlot i .s0 →
      t.bt2s1 = s.bt2s1 ∧
      (∀ v, exec i { s with bt2s1 := v } = .next u → u = { t with bt2s1 := v })) ∧
    (usesSlot i .s1 →
      t.bt2s0 = s.bt2s0 ∧
      (∀ v, exec i { s with bt2s0 := v } = .next u → u = { t with bt2s0 := v }))

/-- A preset read back field by field and rebuilt is equal to itself: after a preset load into a slot, the six accessors
give the fields, `BT2.EQ` against them gives 1, and `BT2.SET` of them on the other slot makes the two slots equal
(rule R133 (a)). -/
def Obligations.PresetReadBackRebuildsTheValue : Prop :=
  ∀ (i : Instr) (k k' : Slot) (idx : Nat) (s t : State),
    i = .bt2Pcia k idx ∨ i = .bt2Pifi k idx ∨ i = .bt2Pfd k idx →
    s.agent = .caller → indexOk i = true → exec i s = .next t →
    ∃ v, t.bt2 k = some v ∧
      (∃ u, exec (.bt2Rdmode k) t = .next u ∧ u.res.toNat = v.mode.toNat) ∧
      (∃ u, exec (.bt2Rdpresc k) t = .next u ∧ u.res = v.presc) ∧
      (∃ u, exec (.bt2Rdts1 k) t = .next u ∧ u.res.toNat = v.ts1.toNat) ∧
      (∃ u, exec (.bt2Rdts2 k) t = .next u ∧ u.res.toNat = v.ts2.toNat) ∧
      (∃ u, exec (.bt2Rdsjw k) t = .next u ∧ u.res.toNat = v.sjw.toNat) ∧
      (∃ u, exec (.bt2Rdtdo k) t = .next u ∧ u.res.toNat = v.tdo.toNat) ∧
      (∃ u, exec (.bt2Eq k v) t = .next u ∧ u.res = 1) ∧
      (∃ u, exec (.bt2Set k' v) t = .next u ∧ u.bt2 k' = some v ∧ u.bt2 k = some v)

/-- `FDP.SET` and `FDP.SINGLE` write both slots at once (rules R140 and R141). -/
def Obligations.FdpLoadsWriteBothSlots : Prop :=
  (∀ a b : BT2Val, CallerWriteRule 0x30 (.fdpSet a b) fun s => { s with bt2s0 := some a, bt2s1 := some b }) ∧
  (∀ a : BT2Val, CallerWriteRule 0x31 (.fdpSingle a) fun s => { s with bt2s0 := some a, bt2s1 := some a })

/-- `FDP.PCIA`, `FDP.PSHORT` and `FDP.PLONG` load the pair's entry into both slots or raise `BADIDX`
(rules R142 to R144). -/
def Obligations.FdpPresetsLoadTableEntries : Prop :=
  ∀ (op : Nat) (i : Nat → Instr) (table : List FdPair) (length : Nat),
    (op, i, table, length) ∈
      [(0x32, Instr.fdpPcia, pairCia, 8), (0x33, Instr.fdpPshort, pairShort, nShort),
       (0x34, Instr.fdpPlong, pairLong, nLong)] →
    PresetRule op i length (fun k => table.getD k default)
      (fun s p => { s with bt2s0 := some p.std, bt2s1 := some p.fast })

/-- `FDP.PCIA #k` leaves the same registers as `BT2.PCIA s0, #k` followed by `BT2.PCIA s1, #k` (rules R57 and R142). -/
def Obligations.FdpPciaIsTwoSlotLoads : Prop :=
  ∀ (s : State) (k : Nat), s.agent = .caller → k < 8 →
    ∃ t, exec (.bt2Pcia .s0 k) s = .next t ∧ exec (.bt2Pcia .s1 k) t = exec (.fdpPcia k) s

/-- The three snapshot loads store every field as given, and raise `PRIV` for a CALLER (rules R150, R151 and R190). -/
def Obligations.SnapshotLoadsStoreTheFields : Prop :=
  (∀ o l c b0 b1 : Byte, DriverLoadRule 0x40 (.cstLd o l c b0 b1) fun s => { s with cst := some ⟨o, l, c, b0, b1⟩ }) ∧
  (∀ (o e l c : Byte) (a b : BT2Val),
    DriverLoadRule 0x41 (.cst2Ld o e l c a b) fun s => { s with cst2 := some ⟨o, e, l, c, a, b⟩ }) ∧
  (∀ (o l c : Byte) (r : Word), DriverLoadRule 0x42 (.lstLd o l c r) fun s => { s with lst := some ⟨o, l, c, r⟩ })

/-- The raw reads of the three snapshots give their fields (rules R167 to R169, R178 to R181 and R197 to R200). -/
def Obligations.SnapshotReadsGiveTheFields : Prop :=
  ReadRule 0x51 .cstRdop State.cst (fun x => BitVec.ofNat 32 x.opmode.toNat) ∧
  ReadRule 0x52 .cstRdload State.cst (fun x => BitVec.ofNat 32 x.busload.toNat) ∧
  ReadRule 0x53 .cstRdstat State.cst (fun x => BitVec.ofNat 32 x.ctrlstat.toNat) ∧
  ReadRule 0x61 .cst2Rdop State.cst2 (fun x => BitVec.ofNat 32 x.opmode.toNat) ∧
  ReadRule 0x62 .cst2Rdex State.cst2 (fun x => BitVec.ofNat 32 x.exmode.toNat) ∧
  ReadRule 0x63 .cst2Rdload State.cst2 (fun x => BitVec.ofNat 32 x.busload.toNat) ∧
  ReadRule 0x64 .cst2Rdstat State.cst2 (fun x => BitVec.ofNat 32 x.ctrlstat.toNat) ∧
  ReadRule 0x71 .lstRdop State.lst (fun x => BitVec.ofNat 32 x.opmode.toNat) ∧
  ReadRule 0x72 .lstRdload State.lst (fun x => BitVec.ofNat 32 x.busload.toNat) ∧
  ReadRule 0x73 .lstRdstat State.lst (fun x => BitVec.ofNat 32 x.ctrlstat.toNat) ∧
  ReadRule 0x74 .lstRdrate State.lst (fun x => x.bitrate)

/-- `CST.GETBT` and `CST2.GETBT` copy the embedded bit rates, `RES` unchanged (rules R170 and R182). -/
def Obligations.GetBtCopiesTheBitRates : Prop :=
  UseRule 0x54 .cstGetbt State.cst (fun s x => { s with bt := some ⟨x.btr0, x.btr1⟩ }) ∧
  UseRule 0x65 .cst2Getbt State.cst2 (fun s x => { s with bt2s0 := some x.std, bt2s1 := some x.fast })

/-- `CST.DEC` in the closed form of rule R166: `ctrlstat[5:0]`, `opmode[5:2]` and the mode code of rule R184. -/
def Obligations.CstDecodeWordClosedForm : Prop :=
  ReadRule 0x50 .cstDec State.cst fun x =>
    BitVec.ofNat 32 (128 * (x.ctrlstat.toNat % 64) + 8 * (x.opmode.toNat / 4 % 16) +
      [1, 2, 4, 0].getD (x.opmode.toNat % 4) 0)

/-- `CST2.DEC` in closed form, for the OPEN parameter `EXTEN_TESTS_ERRFRAME` at whatever value it has (rules R176 and
R177): bit 16 is `opmode[2]` or `opmode[1]`. -/
def Obligations.CstTwoDecodeWordClosedForm : Prop :=
  ReadRule 0x60 .cst2Dec State.cst2 fun x =>
    BitVec.ofNat 32 (65536 * (x.opmode.toNat / (if Config.extenTestsErrframe then 4 else 2) % 2) +
      8192 * (x.exmode.toNat % 8) + 128 * (x.ctrlstat.toNat % 64) + 8 * (x.opmode.toNat / 4 % 16) +
      [1, 2, 4, 0].getD (x.opmode.toNat % 4) 0)

/-- `LST.DEC` in closed form: exactly one of the bits 0 and 1 by the `Master` bit, then `Errors`, `Overrun` and `InInit`
(rules R191 to R196 and R201). -/
def Obligations.LstDecodeWordClosedForm : Prop :=
  ReadRule 0x70 .lstDec State.lst fun x =>
    BitVec.ofNat 32 (16 * (x.ctrlstat.toNat / 16 % 2) + 8 * (x.ctrlstat.toNat % 2) + 4 * (x.opmode.toNat / 2 % 2) +
      (if x.opmode.toNat % 2 = 0 then 1 else 2))

/-! ## Predicates and tables -/

/-- Each predicate is the bit its rule names, and the mode-field predicates follow the table of rule R184
(rules R153 to R165, R172 to R174, R176, R184 and R191 to R195). -/
def Obligations.PredicatesTestTheirBits : Prop :=
  ∀ v : Byte,
    (isModeUndefined v = true ↔ v.toNat % 4 = 0) ∧ (isModeStandard v = true ↔ v.toNat % 4 = 1) ∧
    (isModeExtended v = true ↔ v.toNat % 4 = 2) ∧
    isErrorFramesEnabled v = v.getLsbD 2 ∧ isListenOnly v = v.getLsbD 3 ∧ isLowSpeedEnabled v = v.getLsbD 4 ∧
    isAutoBaudrateEnabled v = v.getLsbD 5 ∧
    isTransmitPending v = v.getLsbD 0 ∧ hasDataOverrun v = v.getLsbD 1 ∧ hasErrorOverrun v = v.getLsbD 2 ∧
    isBusOff v = v.getLsbD 3 ∧ isInInitMode v = v.getLsbD 4 ∧ isBusCouplingError v = v.getLsbD 5 ∧
    isExtendedDataLengthEnabled v = v.getLsbD 0 ∧ isFastDataEnabled v = v.getLsbD 1 ∧
    isNonIsoCanfdEnabled v = v.getLsbD 2 ∧
    isExtModeEnabled true v = v.getLsbD 2 ∧ isExtModeEnabled false v = v.getLsbD 1 ∧
    isInMasterMode v = v.getLsbD 0 ∧ isErrModeEnabled v = v.getLsbD 1 ∧ hasLinDataOverrun v = v.getLsbD 0 ∧
    isLinInInitMode v = v.getLsbD 4 ∧ isInSlaveMode v = !isInMasterMode v

/-- The values of the tables that the spec settles: entry 5 of `PRESET_BTR`, `CIA_ALL`, `PRESET_CIA2`, entry 0 of
`PRESET_IFI` and `PAIR_CIA` (rules R51, R52, R54, R55 and R57). -/
def Obligations.SettledPresetEntries : Prop :=
  presetBtr.length = 9 ∧ presetBtr[5]? = some ⟨0x01, 0x1C⟩ ∧ ciaAll = [0, 1, 2, 4, 5, 6, 7, 8] ∧
  presetCia2 = [⟨0, 10000, 14, 2, 1, 0⟩, ⟨0, 20000, 14, 2, 1, 0⟩, ⟨0, 50000, 14, 2, 1, 0⟩, ⟨0, 125000, 14, 2, 1, 0⟩,
    ⟨0, 250000, 14, 2, 1, 0⟩, ⟨0, 500000, 14, 2, 1, 0⟩, ⟨0, 800000, 8, 2, 1, 0⟩, ⟨0, 1000000, 6, 2, 1, 0⟩] ∧
  presetIfi.length = 7 ∧ presetIfi[0]? = some ⟨0x01, 4, 15, 4, 4, 64⟩ ∧
  pairCia.length = 8 ∧ ∀ p ∈ pairCia, p.std = p.fast

/-- What the spec settles of the OPEN tables holds whatever their open entries are: every IFI entry is raw, and their seven
rates ascend from 1000 to 10000 kbit/s; the CAN-FD catalog is logical, ascends from 250 to 10000 kbit/s with a `tdo` that is
one of the five fractions of `ts1 + ts2`, and holds the source's 1000 kbit/s entry; lengths are 1 to 16 (rules R4, R55 and
R56). That "ascending" is not falling, and that the rate of a raw entry is the one at its place in `ifiRates`, is the
model's reading: log entry 11. -/
def Obligations.OpenTablesMeetTheirConstraints : Prop :=
  (∀ v ∈ presetIfi, v.mode.getLsbD 0 = true) ∧
  ifiRates.length = presetIfi.length ∧ ifiRates.head? = some 1000000 ∧ ifiRates.getLast? = some 10000000 ∧
  ifiRates.Pairwise (· ≤ ·) ∧
  1 ≤ nCanfd ∧ nCanfd ≤ 16 ∧ idxCanfd1000k < nCanfd ∧
  presetCanfd[idxCanfd1000k]? = some ⟨0x00, 1000000, 1600, 400, 400, 1600⟩ ∧
  presetCanfd.head?.map (·.presc) = some 250000 ∧ presetCanfd.getLast?.map (·.presc) = some 10000000 ∧
  (∀ v ∈ presetCanfd, v.mode.getLsbD 0 = false ∧
    ∃ f ∈ [80, 81, 75, 67, 50], v.tdo.toNat = (v.ts1.toNat + v.ts2.toNat) * f / 100) ∧
  presetCanfd.Pairwise (fun v v' => v.presc.toNat ≤ v'.presc.toNat)

/-- What the spec settles of the pair tables: lengths 1 to 16; one 500 kbit/s (250 kbit/s) arbitration value throughout;
every half an entry of a BitTimingValue2 table; and the data rates of the short pairs rise strictly, a data value's rate
being `presc` where it is logical, and where it is raw the rate of its place in the IFI table, whose seven rates ascend from
1000 to 10000 kbit/s (rules R26, R55 and R58). That the arbitration value is logical, so that its rate is its `presc`, and
that "ascending" is not falling, is the model's reading: log entry 11. -/
def Obligations.PairTablesMeetTheirConstraints : Prop :=
  1 ≤ nShort ∧ nShort ≤ 16 ∧ 1 ≤ nLong ∧ nLong ≤ 16 ∧
  (∃ std : BT2Val, std.mode.getLsbD 0 = false ∧ std.presc = 500000 ∧ ∀ p ∈ pairShort, p.std = std) ∧
  (∃ std : BT2Val, std.mode.getLsbD 0 = false ∧ std.presc = 250000 ∧ ∀ p ∈ pairLong, p.std = std) ∧
  (∀ p ∈ pairShort ++ pairLong, ∀ v ∈ [p.std, p.fast], v ∈ presetCia2 ++ presetIfi ++ presetCanfd) ∧
  ifiRates.length = presetIfi.length ∧ ifiRates.head? = some 1000000 ∧ ifiRates.getLast? = some 10000000 ∧
  ifiRates.Pairwise (· ≤ ·) ∧
  ∃ rates : List Nat, rates.Pairwise (· < ·) ∧
    List.Forall₂
      (fun (p : FdPair) (rate : Nat) =>
        (p.fast.mode.getLsbD 0 = false ∧ p.fast.presc.toNat = rate) ∨ (p.fast, rate) ∈ presetIfi.zip ifiRates)
      pairShort rates

/-! ## Liveness -/

/-- Every request presented while `rst` is not asserted is taken: from any state, whatever requests either agent goes on
presenting before each further step and for ever, there is a step after which every request the agent had waiting has been
taken, in the order issued, run whole and answered (rule R249). What has run is the merge: for each agent, its requests in
the merge followed by those still at its port are those it had waiting followed by those it presented. The order between
the agents is free but for this: log entry 2. -/
def Obligations.EveryPresentedRequestIsTaken : Prop :=
  ∀ (presented : Nat → List (Agent × ReqWord)) (s : State) (a : Agent), s.rst = false →
    ∃ (n : Nat) (merge : List (Agent × ReqWord)) (t : State),
      runPresenting ((List.range n).map presented) s = .next t ∧ RunsSerially s merge t ∧
      (∀ b : Agent,
        wordsOf b merge ++ t.port b = s.port b ++ wordsOf b ((List.range n).map presented).flatten) ∧
      s.port a <+: wordsOf a merge
end

