-- ==== Sys2Proof/Laws/Decode.lean ====
section
/-! SUPPORT. The two layout tables (rules R72 and R75) read back what was written by them. -/

namespace Sys2Proof

/-- Reading the low part of a concatenation. -/
theorem extract_append_low {n m : Nat} (a : BitVec n) (b : BitVec m) : (a ++ b).extractLsb' 0 m = b := by
  apply BitVec.eq_of_getLsbD_eq
  intro k hk
  simp [BitVec.getLsbD_append, hk]

/-- Reading above the low part of a concatenation is reading the high part. -/
theorem extract_append_high {n m : Nat} (a : BitVec n) (b : BitVec m) (lo w : Nat) :
    (a ++ b).extractLsb' (m + lo) w = a.extractLsb' lo w := by
  apply BitVec.eq_of_getLsbD_eq
  intro k hk
  simp [BitVec.getLsbD_append, Nat.add_assoc]

/-- Reading a whole value. -/
theorem extract_all {n : Nat} (a : BitVec n) : a.extractLsb' 0 n = a := by
  simp

/-- Every sub-field of a tuple reads back (rule R75). -/
theorem tupleOf_tupleBits (v : BT2Val) : tupleOf (tupleBits v) = v := by
  obtain ⟨mode, presc, ts1, ts2, sjw, tdo⟩ := v
  exact (BT2Val.mk.injEq ..).mpr
   ⟨extract_append_low _ _,
    (extract_append_high _ mode 0 32)
      |>.trans (extract_append_low _ _),
    (extract_append_high _ mode 32 16)
      |>.trans (extract_append_high _ presc 0 16)
      |>.trans (extract_append_low _ _),
    (extract_append_high _ mode 48 16)
      |>.trans (extract_append_high _ presc 16 16)
      |>.trans (extract_append_high _ ts1 0 16)
      |>.trans (extract_append_low _ _),
    (extract_append_high _ mode 64 16)
      |>.trans (extract_append_high _ presc 32 16)
      |>.trans (extract_append_high _ ts1 16 16)
      |>.trans (extract_append_high _ ts2 0 16)
      |>.trans (extract_append_low _ _),
    (extract_append_high _ mode 80 16)
      |>.trans (extract_append_high _ presc 48 16)
      |>.trans (extract_append_high _ ts1 32 16)
      |>.trans (extract_append_high _ ts2 16 16)
      |>.trans (extract_append_high _ sjw 0 16)
      |>.trans (extract_all _)⟩

/-- Every field of a request word reads back (rule R72). -/
theorem fieldsOf_wordOf (f : Fields) : fieldsOf (wordOf f) = f := by
  obtain ⟨op, slot, idx, rsvd, btr0, btr1, opmode, exmode, busload, ctrlstat, linrate, a, b⟩ := f
  exact (Fields.mk.injEq ..).mpr
   ⟨extract_append_low _ _,
    (extract_append_high _ op 0 1)
      |>.trans (extract_append_low _ _),
    (extract_append_high _ op 1 4)
      |>.trans (extract_append_high _ slot 0 4)
      |>.trans (extract_append_low _ _),
    (extract_append_high _ op 5 3)
      |>.trans (extract_append_high _ slot 4 3)
      |>.trans (extract_append_high _ idx 0 3)
      |>.trans (extract_append_low _ _),
    (extract_append_high _ op 8 8)
      |>.trans (extract_append_high _ slot 7 8)
      |>.trans (extract_append_high _ idx 3 8)
      |>.trans (extract_append_high _ rsvd 0 8)
      |>.trans (extract_append_low _ _),
    (extract_append_high _ op 16 8)
      |>.trans (extract_append_high _ slot 15 8)
      |>.trans (extract_append_high _ idx 11 8)
      |>.trans (extract_append_high _ rsvd 8 8)
      |>.trans (extract_append_high _ btr0 0 8)
      |>.trans (extract_append_low _ _),
    (extract_append_high _ op 24 8)
      |>.trans (extract_append_high _ slot 23 8)
      |>.trans (extract_append_high _ idx 19 8)
      |>.trans (extract_append_high _ rsvd 16 8)
      |>.trans (extract_append_high _ btr0 8 8)
      |>.trans (extract_append_high _ btr1 0 8)
      |>.trans (extract_append_low _ _),
    (extract_append_high _ op 32 8)
      |>.trans (extract_append_high _ slot 31 8)
      |>.trans (extract_append_high _ idx 27 8)
      |>.trans (extract_append_high _ rsvd 24 8)
      |>.trans (extract_append_high _ btr0 16 8)
      |>.trans (extract_append_high _ btr1 8 8)
      |>.trans (extract_append_high _ opmode 0 8)
      |>.trans (extract_append_low _ _),
    (extract_append_high _ op 40 8)
      |>.trans (extract_append_high _ slot 39 8)
      |>.trans (extract_append_high _ idx 35 8)
      |>.trans (extract_append_high _ rsvd 32 8)
      |>.trans (extract_append_high _ btr0 24 8)
      |>.trans (extract_append_high _ btr1 16 8)
      |>.trans (extract_append_high _ opmode 8 8)
      |>.trans (extract_append_high _ exmode 0 8)
      |>.trans (extract_append_low _ _),
    (extract_append_high _ op 48 8)
      |>.trans (extract_append_high _ slot 47 8)
      |>.trans (extract_append_high _ idx 43 8)
      |>.trans (extract_append_high _ rsvd 40 8)
      |>.trans (extract_append_high _ btr0 32 8)
      |>.trans (extract_append_high _ btr1 24 8)
      |>.trans (extract_append_high _ opmode 16 8)
      |>.trans (extract_append_high _ exmode 8 8)
      |>.trans (extract_append_high _ busload 0 8)
      |>.trans (extract_append_low _ _),
    (extract_append_high _ op 56 32)
      |>.trans (extract_append_high _ slot 55 32)
      |>.trans (extract_append_high _ idx 51 32)
      |>.trans (extract_append_high _ rsvd 48 32)
      |>.trans (extract_append_high _ btr0 40 32)
      |>.trans (extract_append_high _ btr1 32 32)
      |>.trans (extract_append_high _ opmode 24 32)
      |>.trans (extract_append_high _ exmode 16 32)
      |>.trans (extract_append_high _ busload 8 32)
      |>.trans (extract_append_high _ ctrlstat 0 32)
      |>.trans (extract_append_low _ _),
    (extract_append_high _ op 88 104)
      |>.trans (extract_append_high _ slot 87 104)
      |>.trans (extract_append_high _ idx 83 104)
      |>.trans (extract_append_high _ rsvd 80 104)
      |>.trans (extract_append_high _ btr0 72 104)
      |>.trans (extract_append_high _ btr1 64 104)
      |>.trans (extract_append_high _ opmode 56 104)
      |>.trans (extract_append_high _ exmode 48 104)
      |>.trans (extract_append_high _ busload 40 104)
      |>.trans (extract_append_high _ ctrlstat 32 104)
      |>.trans (extract_append_high _ linrate 0 104)
      |>.trans (extract_append_low _ _),
    (extract_append_high _ op 192 104)
      |>.trans (extract_append_high _ slot 191 104)
      |>.trans (extract_append_high _ idx 187 104)
      |>.trans (extract_append_high _ rsvd 184 104)
      |>.trans (extract_append_high _ btr0 176 104)
      |>.trans (extract_append_high _ btr1 168 104)
      |>.trans (extract_append_high _ opmode 160 104)
      |>.trans (extract_append_high _ exmode 152 104)
      |>.trans (extract_append_high _ busload 144 104)
      |>.trans (extract_append_high _ ctrlstat 136 104)
      |>.trans (extract_append_high _ linrate 104 104)
      |>.trans (extract_append_high _ a 0 104)
      |>.trans (extract_all _)⟩

/-- A slot reads back. -/
@[simp] theorem slotOf_slotBit (k : Slot) : slotOf (slotBit k) = k := by cases k <;> rfl

end Sys2Proof
end

