-- ==== Sys2Proof/Laws/PerInstr.lean ====
section
/-! SUPPORT. A family of statements about every instruction: its encoding carries its opcode in `REQ[7:0]` and 0 in the
reserved bits (rules R71, R76 and R84). -/

namespace Sys2Proof.Laws.OpcodeField

/-- The encoding of an instruction carries its opcode, and 0 in the reserved bits. -/
def Statement (i : Instr) : Prop := (fieldsOf (encode i)).op = opcodeOf i ∧ (fieldsOf (encode i)).rsvd = 0

/-- The fields of an encoding are the fields it was made of. -/
theorem of_fields {i : Instr} (h : (encodeFields i).op = opcodeOf i ∧ (encodeFields i).rsvd = 0) : Statement i := by
  unfold Statement encode
  rwa [fieldsOf_wordOf]

theorem nop : Statement (.nop) := of_fields ⟨rfl, rfl⟩
theorem btSet (btr0 btr1 : Byte) : Statement (.btSet btr0 btr1) := of_fields ⟨rfl, rfl⟩
theorem btPreset (idx : Nat) : Statement (.btPreset idx) := of_fields ⟨rfl, rfl⟩
theorem btPcia (idx : Nat) : Statement (.btPcia idx) := of_fields ⟨rfl, rfl⟩
theorem btRd0 : Statement (.btRd0) := of_fields ⟨rfl, rfl⟩
theorem btRd1 : Statement (.btRd1) := of_fields ⟨rfl, rfl⟩
theorem btU16 : Statement (.btU16) := of_fields ⟨rfl, rfl⟩
theorem btBrp : Statement (.btBrp) := of_fields ⟨rfl, rfl⟩
theorem btTs1 : Statement (.btTs1) := of_fields ⟨rfl, rfl⟩
theorem btTs2 : Statement (.btTs2) := of_fields ⟨rfl, rfl⟩
theorem btTicks : Statement (.btTicks) := of_fields ⟨rfl, rfl⟩
theorem btEq (btr0 btr1 : Byte) : Statement (.btEq btr0 btr1) := of_fields ⟨rfl, rfl⟩
theorem bt2Set (slot : Slot) (a : BT2Val) : Statement (.bt2Set slot a) := of_fields ⟨rfl, rfl⟩
theorem bt2Pcia (slot : Slot) (idx : Nat) : Statement (.bt2Pcia slot idx) := of_fields ⟨rfl, rfl⟩
theorem bt2Pifi (slot : Slot) (idx : Nat) : Statement (.bt2Pifi slot idx) := of_fields ⟨rfl, rfl⟩
theorem bt2Pfd (slot : Slot) (idx : Nat) : Statement (.bt2Pfd slot idx) := of_fields ⟨rfl, rfl⟩
theorem bt2Rdmode (slot : Slot) : Statement (.bt2Rdmode slot) := of_fields ⟨rfl, rfl⟩
theorem bt2Rdpresc (slot : Slot) : Statement (.bt2Rdpresc slot) := of_fields ⟨rfl, rfl⟩
theorem bt2Rdts1 (slot : Slot) : Statement (.bt2Rdts1 slot) := of_fields ⟨rfl, rfl⟩
theorem bt2Rdts2 (slot : Slot) : Statement (.bt2Rdts2 slot) := of_fields ⟨rfl, rfl⟩
theorem bt2Rdsjw (slot : Slot) : Statement (.bt2Rdsjw slot) := of_fields ⟨rfl, rfl⟩
theorem bt2Rdtdo (slot : Slot) : Statement (.bt2Rdtdo slot) := of_fields ⟨rfl, rfl⟩
theorem bt2Ticks (slot : Slot) : Statement (.bt2Ticks slot) := of_fields ⟨rfl, rfl⟩
theorem bt2Eq (slot : Slot) (a : BT2Val) : Statement (.bt2Eq slot a) := of_fields ⟨rfl, rfl⟩
theorem fdpSet (a b : BT2Val) : Statement (.fdpSet a b) := of_fields ⟨rfl, rfl⟩
theorem fdpSingle (a : BT2Val) : Statement (.fdpSingle a) := of_fields ⟨rfl, rfl⟩
theorem fdpPcia (idx : Nat) : Statement (.fdpPcia idx) := of_fields ⟨rfl, rfl⟩
theorem fdpPshort (idx : Nat) : Statement (.fdpPshort idx) := of_fields ⟨rfl, rfl⟩
theorem fdpPlong (idx : Nat) : Statement (.fdpPlong idx) := of_fields ⟨rfl, rfl⟩
theorem cstLd (opmode busload ctrlstat btr0 btr1 : Byte) : Statement (.cstLd opmode busload ctrlstat btr0 btr1) := of_fields ⟨rfl, rfl⟩
theorem cst2Ld (opmode exmode busload ctrlstat : Byte) (a b : BT2Val) : Statement (.cst2Ld opmode exmode busload ctrlstat a b) := of_fields ⟨rfl, rfl⟩
theorem lstLd (opmode busload ctrlstat : Byte) (linrate : Word) : Statement (.lstLd opmode busload ctrlstat linrate) := of_fields ⟨rfl, rfl⟩
theorem cstDec : Statement (.cstDec) := of_fields ⟨rfl, rfl⟩
theorem cstRdop : Statement (.cstRdop) := of_fields ⟨rfl, rfl⟩
theorem cstRdload : Statement (.cstRdload) := of_fields ⟨rfl, rfl⟩
theorem cstRdstat : Statement (.cstRdstat) := of_fields ⟨rfl, rfl⟩
theorem cstGetbt : Statement (.cstGetbt) := of_fields ⟨rfl, rfl⟩
theorem cst2Dec : Statement (.cst2Dec) := of_fields ⟨rfl, rfl⟩
theorem cst2Rdop : Statement (.cst2Rdop) := of_fields ⟨rfl, rfl⟩
theorem cst2Rdex : Statement (.cst2Rdex) := of_fields ⟨rfl, rfl⟩
theorem cst2Rdload : Statement (.cst2Rdload) := of_fields ⟨rfl, rfl⟩
theorem cst2Rdstat : Statement (.cst2Rdstat) := of_fields ⟨rfl, rfl⟩
theorem cst2Getbt : Statement (.cst2Getbt) := of_fields ⟨rfl, rfl⟩
theorem lstDec : Statement (.lstDec) := of_fields ⟨rfl, rfl⟩
theorem lstRdop : Statement (.lstRdop) := of_fields ⟨rfl, rfl⟩
theorem lstRdload : Statement (.lstRdload) := of_fields ⟨rfl, rfl⟩
theorem lstRdstat : Statement (.lstRdstat) := of_fields ⟨rfl, rfl⟩
theorem lstRdrate : Statement (.lstRdrate) := of_fields ⟨rfl, rfl⟩

end Sys2Proof.Laws.OpcodeField
end

