-- ==== Sys2Proof/Laws/Encoding.lean ====
section
/-! SUPPORT. The opcode of a request word and of an encoding. -/

namespace Sys2Proof.Machine

/-- The opcode of a word is its field `op` (rules R71 and R72). -/
theorem opcodeNat_eq_field (w : ReqWord) : opcodeNat w = (fieldsOf w).op.toNat := by
  simp [opcodeNat, fieldsOf, BitVec.extractLsb'_toNat]

/-- The opcode of an encoding is the instruction's. -/
@[simp] theorem opcodeNat_encode (i : Instr) : opcodeNat (encode i) = (opcodeOf i).toNat := by
  rw [opcodeNat_eq_field, encode, fieldsOf_wordOf]
  cases i <;> rfl

end Sys2Proof.Machine
end

