-- ==== Sys2Proof/Laws/State.lean ====
section
/-! SUPPORT. One lemma per field per update of the state, so that no later proof unfolds a record update. -/

namespace Sys2Proof.Machine

variable (s : State)

/-! `State.setBt` -/

@[simp] theorem State.setBt_bt (b : BTVal) : (s.setBt b).bt = some b := rfl
@[simp] theorem State.setBt_bt2s0 (b : BTVal) : (s.setBt b).bt2s0 = s.bt2s0 := rfl
@[simp] theorem State.setBt_bt2s1 (b : BTVal) : (s.setBt b).bt2s1 = s.bt2s1 := rfl
@[simp] theorem State.setBt_cst (b : BTVal) : (s.setBt b).cst = s.cst := rfl
@[simp] theorem State.setBt_cst2 (b : BTVal) : (s.setBt b).cst2 = s.cst2 := rfl
@[simp] theorem State.setBt_lst (b : BTVal) : (s.setBt b).lst = s.lst := rfl
@[simp] theorem State.setBt_res (b : BTVal) : (s.setBt b).res = s.res := rfl
@[simp] theorem State.setBt_err (b : BTVal) : (s.setBt b).err = s.err := rfl
@[simp] theorem State.setBt_callerPort (b : BTVal) : (s.setBt b).callerPort = s.callerPort := rfl
@[simp] theorem State.setBt_driverPort (b : BTVal) : (s.setBt b).driverPort = s.driverPort := rfl
@[simp] theorem State.setBt_rst (b : BTVal) : (s.setBt b).rst = s.rst := rfl
@[simp] theorem State.setBt_agent (b : BTVal) : (s.setBt b).agent = s.agent := rfl
@[simp] theorem State.setBt_arbCount (b : BTVal) : (s.setBt b).arbCount = s.arbCount := rfl
@[simp] theorem State.setBt_lead (b : BTVal) : (s.setBt b).lead = s.lead := rfl
@[simp] theorem State.setBt_rsp (b : BTVal) : (s.setBt b).rsp = s.rsp := rfl

/-! `State.setFdp` -/

@[simp] theorem State.setFdp_bt (p : FdPair) : (s.setFdp p).bt = s.bt := rfl
@[simp] theorem State.setFdp_bt2s0 (p : FdPair) : (s.setFdp p).bt2s0 = some p.std := rfl
@[simp] theorem State.setFdp_bt2s1 (p : FdPair) : (s.setFdp p).bt2s1 = some p.fast := rfl
@[simp] theorem State.setFdp_cst (p : FdPair) : (s.setFdp p).cst = s.cst := rfl
@[simp] theorem State.setFdp_cst2 (p : FdPair) : (s.setFdp p).cst2 = s.cst2 := rfl
@[simp] theorem State.setFdp_lst (p : FdPair) : (s.setFdp p).lst = s.lst := rfl
@[simp] theorem State.setFdp_res (p : FdPair) : (s.setFdp p).res = s.res := rfl
@[simp] theorem State.setFdp_err (p : FdPair) : (s.setFdp p).err = s.err := rfl
@[simp] theorem State.setFdp_callerPort (p : FdPair) : (s.setFdp p).callerPort = s.callerPort := rfl
@[simp] theorem State.setFdp_driverPort (p : FdPair) : (s.setFdp p).driverPort = s.driverPort := rfl
@[simp] theorem State.setFdp_rst (p : FdPair) : (s.setFdp p).rst = s.rst := rfl
@[simp] theorem State.setFdp_agent (p : FdPair) : (s.setFdp p).agent = s.agent := rfl
@[simp] theorem State.setFdp_arbCount (p : FdPair) : (s.setFdp p).arbCount = s.arbCount := rfl
@[simp] theorem State.setFdp_lead (p : FdPair) : (s.setFdp p).lead = s.lead := rfl
@[simp] theorem State.setFdp_rsp (p : FdPair) : (s.setFdp p).rsp = s.rsp := rfl

/-! `State.setCst` -/

@[simp] theorem State.setCst_bt (x : CanSnapshot) : (s.setCst x).bt = s.bt := rfl
@[simp] theorem State.setCst_bt2s0 (x : CanSnapshot) : (s.setCst x).bt2s0 = s.bt2s0 := rfl
@[simp] theorem State.setCst_bt2s1 (x : CanSnapshot) : (s.setCst x).bt2s1 = s.bt2s1 := rfl
@[simp] theorem State.setCst_cst (x : CanSnapshot) : (s.setCst x).cst = some x := rfl
@[simp] theorem State.setCst_cst2 (x : CanSnapshot) : (s.setCst x).cst2 = s.cst2 := rfl
@[simp] theorem State.setCst_lst (x : CanSnapshot) : (s.setCst x).lst = s.lst := rfl
@[simp] theorem State.setCst_res (x : CanSnapshot) : (s.setCst x).res = s.res := rfl
@[simp] theorem State.setCst_err (x : CanSnapshot) : (s.setCst x).err = s.err := rfl
@[simp] theorem State.setCst_callerPort (x : CanSnapshot) : (s.setCst x).callerPort = s.callerPort := rfl
@[simp] theorem State.setCst_driverPort (x : CanSnapshot) : (s.setCst x).driverPort = s.driverPort := rfl
@[simp] theorem State.setCst_rst (x : CanSnapshot) : (s.setCst x).rst = s.rst := rfl
@[simp] theorem State.setCst_agent (x : CanSnapshot) : (s.setCst x).agent = s.agent := rfl
@[simp] theorem State.setCst_arbCount (x : CanSnapshot) : (s.setCst x).arbCount = s.arbCount := rfl
@[simp] theorem State.setCst_lead (x : CanSnapshot) : (s.setCst x).lead = s.lead := rfl
@[simp] theorem State.setCst_rsp (x : CanSnapshot) : (s.setCst x).rsp = s.rsp := rfl

/-! `State.setCst2` -/

@[simp] theorem State.setCst2_bt (x : CanSnapshot2) : (s.setCst2 x).bt = s.bt := rfl
@[simp] theorem State.setCst2_bt2s0 (x : CanSnapshot2) : (s.setCst2 x).bt2s0 = s.bt2s0 := rfl
@[simp] theorem State.setCst2_bt2s1 (x : CanSnapshot2) : (s.setCst2 x).bt2s1 = s.bt2s1 := rfl
@[simp] theorem State.setCst2_cst (x : CanSnapshot2) : (s.setCst2 x).cst = s.cst := rfl
@[simp] theorem State.setCst2_cst2 (x : CanSnapshot2) : (s.setCst2 x).cst2 = some x := rfl
@[simp] theorem State.setCst2_lst (x : CanSnapshot2) : (s.setCst2 x).lst = s.lst := rfl
@[simp] theorem State.setCst2_res (x : CanSnapshot2) : (s.setCst2 x).res = s.res := rfl
@[simp] theorem State.setCst2_err (x : CanSnapshot2) : (s.setCst2 x).err = s.err := rfl
@[simp] theorem State.setCst2_callerPort (x : CanSnapshot2) : (s.setCst2 x).callerPort = s.callerPort := rfl
@[simp] theorem State.setCst2_driverPort (x : CanSnapshot2) : (s.setCst2 x).driverPort = s.driverPort := rfl
@[simp] theorem State.setCst2_rst (x : CanSnapshot2) : (s.setCst2 x).rst = s.rst := rfl
@[simp] theorem State.setCst2_agent (x : CanSnapshot2) : (s.setCst2 x).agent = s.agent := rfl
@[simp] theorem State.setCst2_arbCount (x : CanSnapshot2) : (s.setCst2 x).arbCount = s.arbCount := rfl
@[simp] theorem State.setCst2_lead (x : CanSnapshot2) : (s.setCst2 x).lead = s.lead := rfl
@[simp] theorem State.setCst2_rsp (x : CanSnapshot2) : (s.setCst2 x).rsp = s.rsp := rfl

/-! `State.setLst` -/

@[simp] theorem State.setLst_bt (x : LinSnapshot) : (s.setLst x).bt = s.bt := rfl
@[simp] theorem State.setLst_bt2s0 (x : LinSnapshot) : (s.setLst x).bt2s0 = s.bt2s0 := rfl
@[simp] theorem State.setLst_bt2s1 (x : LinSnapshot) : (s.setLst x).bt2s1 = s.bt2s1 := rfl
@[simp] theorem State.setLst_cst (x : LinSnapshot) : (s.setLst x).cst = s.cst := rfl
@[simp] theorem State.setLst_cst2 (x : LinSnapshot) : (s.setLst x).cst2 = s.cst2 := rfl
@[simp] theorem State.setLst_lst (x : LinSnapshot) : (s.setLst x).lst = some x := rfl
@[simp] theorem State.setLst_res (x : LinSnapshot) : (s.setLst x).res = s.res := rfl
@[simp] theorem State.setLst_err (x : LinSnapshot) : (s.setLst x).err = s.err := rfl
@[simp] theorem State.setLst_callerPort (x : LinSnapshot) : (s.setLst x).callerPort = s.callerPort := rfl
@[simp] theorem State.setLst_driverPort (x : LinSnapshot) : (s.setLst x).driverPort = s.driverPort := rfl
@[simp] theorem State.setLst_rst (x : LinSnapshot) : (s.setLst x).rst = s.rst := rfl
@[simp] theorem State.setLst_agent (x : LinSnapshot) : (s.setLst x).agent = s.agent := rfl
@[simp] theorem State.setLst_arbCount (x : LinSnapshot) : (s.setLst x).arbCount = s.arbCount := rfl
@[simp] theorem State.setLst_lead (x : LinSnapshot) : (s.setLst x).lead = s.lead := rfl
@[simp] theorem State.setLst_rsp (x : LinSnapshot) : (s.setLst x).rsp = s.rsp := rfl

/-! `State.setRes` -/

@[simp] theorem State.setRes_bt (v : Word) : (s.setRes v).bt = s.bt := rfl
@[simp] theorem State.setRes_bt2s0 (v : Word) : (s.setRes v).bt2s0 = s.bt2s0 := rfl
@[simp] theorem State.setRes_bt2s1 (v : Word) : (s.setRes v).bt2s1 = s.bt2s1 := rfl
@[simp] theorem State.setRes_cst (v : Word) : (s.setRes v).cst = s.cst := rfl
@[simp] theorem State.setRes_cst2 (v : Word) : (s.setRes v).cst2 = s.cst2 := rfl
@[simp] theorem State.setRes_lst (v : Word) : (s.setRes v).lst = s.lst := rfl
@[simp] theorem State.setRes_res (v : Word) : (s.setRes v).res = v := rfl
@[simp] theorem State.setRes_err (v : Word) : (s.setRes v).err = s.err := rfl
@[simp] theorem State.setRes_callerPort (v : Word) : (s.setRes v).callerPort = s.callerPort := rfl
@[simp] theorem State.setRes_driverPort (v : Word) : (s.setRes v).driverPort = s.driverPort := rfl
@[simp] theorem State.setRes_rst (v : Word) : (s.setRes v).rst = s.rst := rfl
@[simp] theorem State.setRes_agent (v : Word) : (s.setRes v).agent = s.agent := rfl
@[simp] theorem State.setRes_arbCount (v : Word) : (s.setRes v).arbCount = s.arbCount := rfl
@[simp] theorem State.setRes_lead (v : Word) : (s.setRes v).lead = s.lead := rfl
@[simp] theorem State.setRes_rsp (v : Word) : (s.setRes v).rsp = s.rsp := rfl

/-! `State.recordFault` -/

@[simp] theorem State.recordFault_bt (c : FaultCode) : (s.recordFault c).bt = s.bt := rfl
@[simp] theorem State.recordFault_bt2s0 (c : FaultCode) : (s.recordFault c).bt2s0 = s.bt2s0 := rfl
@[simp] theorem State.recordFault_bt2s1 (c : FaultCode) : (s.recordFault c).bt2s1 = s.bt2s1 := rfl
@[simp] theorem State.recordFault_cst (c : FaultCode) : (s.recordFault c).cst = s.cst := rfl
@[simp] theorem State.recordFault_cst2 (c : FaultCode) : (s.recordFault c).cst2 = s.cst2 := rfl
@[simp] theorem State.recordFault_lst (c : FaultCode) : (s.recordFault c).lst = s.lst := rfl
@[simp] theorem State.recordFault_res (c : FaultCode) : (s.recordFault c).res = s.res := rfl
@[simp] theorem State.recordFault_err (c : FaultCode) : (s.recordFault c).err = if s.err = 0 then c.code else s.err := rfl
@[simp] theorem State.recordFault_callerPort (c : FaultCode) : (s.recordFault c).callerPort = s.callerPort := rfl
@[simp] theorem State.recordFault_driverPort (c : FaultCode) : (s.recordFault c).driverPort = s.driverPort := rfl
@[simp] theorem State.recordFault_rst (c : FaultCode) : (s.recordFault c).rst = s.rst := rfl
@[simp] theorem State.recordFault_agent (c : FaultCode) : (s.recordFault c).agent = s.agent := rfl
@[simp] theorem State.recordFault_arbCount (c : FaultCode) : (s.recordFault c).arbCount = s.arbCount := rfl
@[simp] theorem State.recordFault_lead (c : FaultCode) : (s.recordFault c).lead = s.lead := rfl
@[simp] theorem State.recordFault_rsp (c : FaultCode) : (s.recordFault c).rsp = s.rsp := rfl

/-! `State.respond` -/

@[simp] theorem State.respond_bt (f : BitVec 3) : (s.respond f).bt = s.bt := rfl
@[simp] theorem State.respond_bt2s0 (f : BitVec 3) : (s.respond f).bt2s0 = s.bt2s0 := rfl
@[simp] theorem State.respond_bt2s1 (f : BitVec 3) : (s.respond f).bt2s1 = s.bt2s1 := rfl
@[simp] theorem State.respond_cst (f : BitVec 3) : (s.respond f).cst = s.cst := rfl
@[simp] theorem State.respond_cst2 (f : BitVec 3) : (s.respond f).cst2 = s.cst2 := rfl
@[simp] theorem State.respond_lst (f : BitVec 3) : (s.respond f).lst = s.lst := rfl
@[simp] theorem State.respond_res (f : BitVec 3) : (s.respond f).res = s.res := rfl
@[simp] theorem State.respond_err (f : BitVec 3) : (s.respond f).err = s.err := rfl
@[simp] theorem State.respond_callerPort (f : BitVec 3) : (s.respond f).callerPort = s.callerPort := rfl
@[simp] theorem State.respond_driverPort (f : BitVec 3) : (s.respond f).driverPort = s.driverPort := rfl
@[simp] theorem State.respond_rst (f : BitVec 3) : (s.respond f).rst = s.rst := rfl
@[simp] theorem State.respond_agent (f : BitVec 3) : (s.respond f).agent = s.agent := rfl
@[simp] theorem State.respond_arbCount (f : BitVec 3) : (s.respond f).arbCount = s.arbCount := rfl
@[simp] theorem State.respond_lead (f : BitVec 3) : (s.respond f).lead = s.lead := rfl
@[simp] theorem State.respond_rsp (f : BitVec 3) : (s.respond f).rsp = some ⟨s.agent, f, s.res⟩ := rfl

/-! `State.setBt2` -/

@[simp] theorem State.setBt2_bt (k : Slot) (v : BT2Val) : (s.setBt2 k v).bt = s.bt := by cases k <;> rfl
@[simp] theorem State.setBt2_bt2s0_same (v : BT2Val) : (s.setBt2 .s0 v).bt2s0 = some v := rfl
@[simp] theorem State.setBt2_bt2s0_other (v : BT2Val) : (s.setBt2 .s1 v).bt2s0 = s.bt2s0 := rfl
@[simp] theorem State.setBt2_bt2s1_same (v : BT2Val) : (s.setBt2 .s1 v).bt2s1 = some v := rfl
@[simp] theorem State.setBt2_bt2s1_other (v : BT2Val) : (s.setBt2 .s0 v).bt2s1 = s.bt2s1 := rfl
@[simp] theorem State.setBt2_cst (k : Slot) (v : BT2Val) : (s.setBt2 k v).cst = s.cst := by cases k <;> rfl
@[simp] theorem State.setBt2_cst2 (k : Slot) (v : BT2Val) : (s.setBt2 k v).cst2 = s.cst2 := by cases k <;> rfl
@[simp] theorem State.setBt2_lst (k : Slot) (v : BT2Val) : (s.setBt2 k v).lst = s.lst := by cases k <;> rfl
@[simp] theorem State.setBt2_res (k : Slot) (v : BT2Val) : (s.setBt2 k v).res = s.res := by cases k <;> rfl
@[simp] theorem State.setBt2_err (k : Slot) (v : BT2Val) : (s.setBt2 k v).err = s.err := by cases k <;> rfl
@[simp] theorem State.setBt2_callerPort (k : Slot) (v : BT2Val) : (s.setBt2 k v).callerPort = s.callerPort := by cases k <;> rfl
@[simp] theorem State.setBt2_driverPort (k : Slot) (v : BT2Val) : (s.setBt2 k v).driverPort = s.driverPort := by cases k <;> rfl
@[simp] theorem State.setBt2_rst (k : Slot) (v : BT2Val) : (s.setBt2 k v).rst = s.rst := by cases k <;> rfl
@[simp] theorem State.setBt2_agent (k : Slot) (v : BT2Val) : (s.setBt2 k v).agent = s.agent := by cases k <;> rfl
@[simp] theorem State.setBt2_arbCount (k : Slot) (v : BT2Val) : (s.setBt2 k v).arbCount = s.arbCount := by cases k <;> rfl
@[simp] theorem State.setBt2_lead (k : Slot) (v : BT2Val) : (s.setBt2 k v).lead = s.lead := by cases k <;> rfl
@[simp] theorem State.setBt2_rsp (k : Slot) (v : BT2Val) : (s.setBt2 k v).rsp = s.rsp := by cases k <;> rfl

/-- A slot reads back what was written to it. -/
@[simp] theorem State.bt2_setBt2_same (k : Slot) (v : BT2Val) : (s.setBt2 k v).bt2 k = some v := by cases k <;> rfl

/-- A write to one slot leaves the other one alone. -/
theorem State.bt2_setBt2_other (k k' : Slot) (v : BT2Val) (h : k' ≠ k) : (s.setBt2 k v).bt2 k' = s.bt2 k' := by
  cases k <;> cases k' <;> first | rfl | exact absurd rfl h

/-! `State.bt2` -/

@[simp] theorem State.bt2_s0 : s.bt2 .s0 = s.bt2s0 := rfl
@[simp] theorem State.bt2_s1 : s.bt2 .s1 = s.bt2s1 := rfl

/-! `State.afterReset` -/

@[simp] theorem State.afterReset_bt : s.afterReset.bt = none := rfl
@[simp] theorem State.afterReset_bt2s0 : s.afterReset.bt2s0 = none := rfl
@[simp] theorem State.afterReset_bt2s1 : s.afterReset.bt2s1 = none := rfl
@[simp] theorem State.afterReset_cst : s.afterReset.cst = none := rfl
@[simp] theorem State.afterReset_cst2 : s.afterReset.cst2 = none := rfl
@[simp] theorem State.afterReset_lst : s.afterReset.lst = none := rfl
@[simp] theorem State.afterReset_res : s.afterReset.res = 0 := rfl
@[simp] theorem State.afterReset_err : s.afterReset.err = 0 := rfl
@[simp] theorem State.afterReset_callerPort : s.afterReset.callerPort = [] := rfl
@[simp] theorem State.afterReset_driverPort : s.afterReset.driverPort = [] := rfl
@[simp] theorem State.afterReset_rst : s.afterReset.rst = false := rfl
@[simp] theorem State.afterReset_agent : s.afterReset.agent = .caller := rfl
@[simp] theorem State.afterReset_arbCount : s.afterReset.arbCount = s.arbCount := rfl
@[simp] theorem State.afterReset_lead : s.afterReset.lead = none := rfl
@[simp] theorem State.afterReset_rsp : s.afterReset.rsp = none := rfl

/-! `State.decideTie`: only the arbitration's own two fields change -/

@[simp] theorem State.decideTie_bt : s.decideTie.2.bt = s.bt := by unfold State.decideTie; split <;> rfl
@[simp] theorem State.decideTie_bt2s0 : s.decideTie.2.bt2s0 = s.bt2s0 := by unfold State.decideTie; split <;> rfl
@[simp] theorem State.decideTie_bt2s1 : s.decideTie.2.bt2s1 = s.bt2s1 := by unfold State.decideTie; split <;> rfl
@[simp] theorem State.decideTie_cst : s.decideTie.2.cst = s.cst := by unfold State.decideTie; split <;> rfl
@[simp] theorem State.decideTie_cst2 : s.decideTie.2.cst2 = s.cst2 := by unfold State.decideTie; split <;> rfl
@[simp] theorem State.decideTie_lst : s.decideTie.2.lst = s.lst := by unfold State.decideTie; split <;> rfl
@[simp] theorem State.decideTie_res : s.decideTie.2.res = s.res := by unfold State.decideTie; split <;> rfl
@[simp] theorem State.decideTie_err : s.decideTie.2.err = s.err := by unfold State.decideTie; split <;> rfl
@[simp] theorem State.decideTie_callerPort : s.decideTie.2.callerPort = s.callerPort := by
  unfold State.decideTie; split <;> rfl
@[simp] theorem State.decideTie_driverPort : s.decideTie.2.driverPort = s.driverPort := by
  unfold State.decideTie; split <;> rfl
@[simp] theorem State.decideTie_rst : s.decideTie.2.rst = s.rst := by unfold State.decideTie; split <;> rfl
@[simp] theorem State.decideTie_agent : s.decideTie.2.agent = s.agent := by unfold State.decideTie; split <;> rfl
@[simp] theorem State.decideTie_rsp : s.decideTie.2.rsp = s.rsp := by unfold State.decideTie; split <;> rfl

end Sys2Proof.Machine
end

