-- ==== Sys2Proof/Laws/Ops.lean ====
section
/-! SUPPORT. What each shared operation can do, said once. -/

namespace Sys2Proof.Machine

/-- A fault's whole effect (rule R221). -/
theorem raise_eq (c : FaultCode) (s : State) : raise c s = .next ((s.recordFault c).respond c.code) := rfl

/-- The end of an operation without a fault. -/
theorem finish_eq (s : State) : finish s = .next (s.respond 0) := rfl

/-- The agent check passes. -/
theorem onlyFor_same {a : Agent} {s : State} {body : Result} (h : s.agent = a) : onlyFor a s body = body := by
  simp [onlyFor, h]

/-- The agent check fails. -/
theorem onlyFor_other {a : Agent} {s : State} {body : Result} (h : s.agent ≠ a) : onlyFor a s body = raise .priv s := by
  simp [onlyFor, h]

/-- Everything a CALLER write can do. -/
theorem callerWrite_cases (s t : State) :
    (s.agent = .caller ∧ callerWrite s t = .next (t.respond 0)) ∨ (s.agent = .driver ∧ callerWrite s t = raise .priv s) := by
  cases h : s.agent <;> simp [callerWrite, onlyFor, finish, h]

/-- Everything a snapshot load can do. -/
theorem driverWrite_cases (s t : State) :
    (s.agent = .driver ∧ driverWrite s t = .next (t.respond 0)) ∨ (s.agent = .caller ∧ driverWrite s t = raise .priv s) := by
  cases h : s.agent <;> simp [driverWrite, onlyFor, finish, h]

/-- Everything a preset load can do. -/
theorem callerPreset_cases {α : Type} (table : List α) (idx : Nat) (s : State) (write : α → State) :
    (s.agent = .driver ∧ callerPreset table idx s write = raise .priv s) ∨
    (s.agent = .caller ∧ table.length ≤ idx ∧ callerPreset table idx s write = raise .badidx s) ∨
    (∃ v, s.agent = .caller ∧ table[idx]? = some v ∧ callerPreset table idx s write = .next ((write v).respond 0)) := by
  cases ha : s.agent
  · cases hv : table[idx]? with
    | none => exact .inr (.inl ⟨rfl, List.getElem?_eq_none_iff.mp hv, by simp [callerPreset, onlyFor, romRead, ha, hv]⟩)
    | some v => exact .inr (.inr ⟨v, rfl, rfl, by simp [callerPreset, onlyFor, romRead, ha, hv, finish]⟩)
  · exact .inl ⟨rfl, by simp [callerPreset, onlyFor, ha]⟩

/-- Everything an operation that reads a holding register can do. -/
theorem callerUse_cases {α : Type} (reg : Option α) (s : State) (write : α → State) :
    (s.agent = .driver ∧ callerUse reg s write = raise .priv s) ∨
    (s.agent = .caller ∧ reg = none ∧ callerUse reg s write = raise .noval s) ∨
    (∃ v, s.agent = .caller ∧ reg = some v ∧ callerUse reg s write = .next ((write v).respond 0)) := by
  cases ha : s.agent
  · cases reg with
    | none => exact .inr (.inl ⟨rfl, rfl, by simp [callerUse, onlyFor, ha]⟩)
    | some v => exact .inr (.inr ⟨v, rfl, rfl, by simp [callerUse, onlyFor, ha, finish]⟩)
  · exact .inl ⟨rfl, by simp [callerUse, onlyFor, ha]⟩

/-- Everything a read-type operation can do. -/
theorem callerRead_cases {α : Type} (reg : Option α) (s : State) (f : α → Word) :
    (s.agent = .driver ∧ callerRead reg s f = raise .priv s) ∨
    (s.agent = .caller ∧ reg = none ∧ callerRead reg s f = raise .noval s) ∨
    (∃ v, s.agent = .caller ∧ reg = some v ∧ callerRead reg s f = .next ((s.setRes (f v)).respond 0)) :=
  callerUse_cases reg s fun v => s.setRes (f v)

/-- Each bit of a decode word is the predicate at its place, and the bits above the list are 0. -/
theorem flagWord_getLsbD (bs : List Bool) (k : Nat) (hk : k < 32) : (flagWord bs).getLsbD k = bs.getD k false := by
  induction bs generalizing k with
  | nil => simp [flagWord]
  | cons b bs ih =>
    cases k with
    | zero => cases b <;> simp [flagWord] <;> rfl
    | succ k =>
      have hb : (boolWord b).getLsbD (k + 1) = false := by cases b <;> simp [boolWord]
      have := ih k (by omega)
      rw [flagWord, BitVec.getLsbD_or, hb, BitVec.getLsbD_shiftLeft]
      simpa [hk] using this

end Sys2Proof.Machine
end

