-- ==== Sys2Proof/Laws/Request.lean ====
section
/-! SUPPORT. What a step can take, and so everything a step can do, said once. -/

namespace Sys2Proof.Machine

/-- Everything `State.take` can answer: the reset, nothing, or the head of one agent's port, with that port one shorter, its
agent in `agent`, and nothing else changed but the two fields that decide ties. -/
theorem State.take_cases (s : State) :
    (s.rst = true ∧ s.take = .reset s.afterReset) ∨
    (s.rst = false ∧ s.callerPort = [] ∧ s.driverPort = [] ∧ s.take = .idle { s with rsp := none }) ∨
    (s.rst = false ∧ ∃ (w : ReqWord) (ws : List ReqWord) (count : Nat) (lead : Option (Agent × Nat)),
      (s.callerPort = w :: ws ∧
        s.take = .request w { s with callerPort := ws, agent := .caller, arbCount := count, lead := lead }) ∨
      (s.driverPort = w :: ws ∧
        s.take = .request w { s with driverPort := ws, agent := .driver, arbCount := count, lead := lead })) := by
  cases hr : s.rst with
  | true => exact .inl ⟨rfl, by simp [State.take, hr]⟩
  | false =>
    refine .inr ?_
    cases hc : s.callerPort with
    | nil =>
      cases hd : s.driverPort with
      | nil => exact .inl ⟨rfl, rfl, rfl, by simp [State.take, hr, hc, hd]⟩
      | cons d ds => exact .inr ⟨rfl, d, ds, s.arbCount, none, .inr ⟨rfl, by simp [State.take, hr, hc, hd]⟩⟩
    | cons c cs =>
      cases hd : s.driverPort with
      | nil => exact .inr ⟨rfl, c, cs, s.arbCount, none, .inl ⟨rfl, by simp [State.take, hr, hc, hd]⟩⟩
      | cons d ds =>
        have hs : s.decideTie.2 = { s with arbCount := s.decideTie.2.arbCount, lead := s.decideTie.2.lead } := by
          unfold State.decideTie; split <;> rfl
        cases ha : s.decideTie.1 with
        | caller =>
          refine .inr ⟨rfl, c, cs, s.decideTie.2.arbCount, s.decideTie.2.lead, .inl ⟨rfl, ?_⟩⟩
          rw [State.take, hr, hc, hd, ha, hs]; simp [hr, hd]
        | driver =>
          refine .inr ⟨rfl, d, ds, s.decideTie.2.arbCount, s.decideTie.2.lead, .inr ⟨rfl, ?_⟩⟩
          rw [State.take, hr, hc, hd, ha, hs]; simp [hr, hc]

/-- How many further ties an agent's waiting request can lose at most: those left to the other agent where that one is
ahead, and else those of the next free value (rule R249). -/
def State.tiesToLose (s : State) (a : Agent) : Nat :=
  match s.lead with
  | none => (Config.arbiter s.arbCount).2 + 1
  | some (b, more) => if b = a then (Config.arbiter s.arbCount).2 + 2 else more

/-- A tie takes the agent's request or leaves it fewer ties to lose, so that it is taken at last (rule R249). -/
theorem State.decideTie_fair (s : State) (a : Agent) :
    s.decideTie.1 = a ∨ s.decideTie.2.tiesToLose a < s.tiesToLose a := by
  unfold State.decideTie State.tiesToLose
  cases hl : s.lead with
  | none =>
    by_cases h : (Config.arbiter s.arbCount).1 = a
    · exact .inl h
    · exact .inr (by simp [h])
  | some l =>
    obtain ⟨b, more⟩ := l
    by_cases h : b = a
    · cases more with
      | zero => exact .inr (by simp [h])
      | succ more => exact .inl h
    · cases more with
      | zero => left; cases a <;> cases b <;> first | rfl | exact absurd rfl h
      | succ more => exact .inr (by simp [h])

end Sys2Proof.Machine
end

