-- ==== Sys2Proof/Laws/Run.lean ====
section
/-! SUPPORT. What a step can do, and a run of several steps, one step at a time. -/

namespace Sys2Proof.Machine

/-- Everything a step can do: the reset, waiting, or the head of one agent's port run as `runWord` says, with nothing else
changed before it but the two fields that decide ties. -/
theorem step_cases (s : State) :
    (s.rst = true ∧ step s = .next s.afterReset) ∨
    (s.rst = false ∧ s.callerPort = [] ∧ s.driverPort = [] ∧ step s = .next { s with rsp := none }) ∨
    (s.rst = false ∧ ∃ (w : ReqWord) (ws : List ReqWord) (count : Nat) (lead : Option (Agent × Nat)),
      (s.callerPort = w :: ws ∧
        step s = runWord w { s with callerPort := ws, agent := .caller, arbCount := count, lead := lead }) ∨
      (s.driverPort = w :: ws ∧
        step s = runWord w { s with driverPort := ws, agent := .driver, arbCount := count, lead := lead })) := by
  rcases s.take_cases with ⟨hr, h⟩ | ⟨hr, hc, hd, h⟩ | ⟨hr, w, ws, count, lead, ⟨hp, h⟩ | ⟨hp, h⟩⟩
  · exact .inl ⟨hr, by rw [step, h]⟩
  · exact .inr (.inl ⟨hr, hc, hd, by rw [step, h]⟩)
  · exact .inr (.inr ⟨hr, w, ws, count, lead, .inl ⟨hp, by rw [step, h]; rfl⟩⟩)
  · exact .inr (.inr ⟨hr, w, ws, count, lead, .inr ⟨hp, by rw [step, h]; rfl⟩⟩)

/-- A run of any machine whose first step answers a next state goes on from there. -/
theorem run_succ_of_next (M : Host.Core) (n : Nat) (s t : M.State) (h : M.step s = .next t) :
    M.run (n + 1) s = M.run n t := by
  rw [Host.Core.run, h]

/-- The same for this machine, in terms of `step`. -/
theorem core_run_succ {n : Nat} {s t : State} (h : step s = .next t) :
    Sys2Proof.core.run (n + 1) s = Sys2Proof.core.run n t :=
  run_succ_of_next Sys2Proof.core n s t h

end Sys2Proof.Machine
end

