-- ==== Sys2Proof/Laws/Tables.lean ====
section
/-! SUPPORT. The constraint on an open value holds by construction, and every legal value is still possible. -/

namespace Sys2Proof.Machine

/-- Whatever the open value, the chosen one meets the constraint. -/
theorem legalOr_legal {α : Type} {legal : α → Bool} {raw witness : α} (h : legal witness = true) :
    legal (legalOr legal raw witness) = true := by
  unfold legalOr
  split <;> assumption

/-- An open value that meets the constraint is taken as it is. -/
theorem legalOr_of_legal {α : Type} {legal : α → Bool} {raw witness : α} (h : legal raw = true) :
    legalOr legal raw witness = raw := by
  simp [legalOr, h]

end Sys2Proof.Machine
end

