-- ==== Sys2Proof/Tests/Slice0.lean ====
section
/-! SUPPORT. Tests of the model against the vectors of 95_test_vectors.md: the well-formedness checks, every constructor's
decoding from a word written out from rules R72 and R75, one step of every operation, and for every obligation with
hypotheses a state and operands that meet them. -/

set_option exponentiation.threshold 304

namespace Sys2Proof.Tests

open Sys2Proof Sys2Proof.Machine

/-! ## Well-formedness: an index that the 4-bit field cannot carry is refused (rule R74) -/

theorem test_wf_index_operands_16_refused :
    WellFormed (.btPreset 16) = false ∧ WellFormed (.btPcia 16) = false ∧ WellFormed (.bt2Pcia .s0 16) = false ∧
    WellFormed (.bt2Pifi .s1 16) = false ∧ WellFormed (.bt2Pfd .s0 16) = false ∧ WellFormed (.fdpPcia 16) = false ∧
    WellFormed (.fdpPshort 16) = false ∧ WellFormed (.fdpPlong 16) = false := by decide

theorem test_wf_index_operands_15_accepted :
    WellFormed (.btPreset 15) = true ∧ WellFormed (.btPcia 15) = true ∧ WellFormed (.bt2Pcia .s0 15) = true ∧
    WellFormed (.bt2Pifi .s1 15) = true ∧ WellFormed (.bt2Pfd .s0 15) = true ∧ WellFormed (.fdpPcia 15) = true ∧
    WellFormed (.fdpPshort 15) = true ∧ WellFormed (.fdpPlong 15) = true := by decide

/-! ## Decoding

The words are written from rule R72: `op` in bits 7:0, `slot` in bit 8, `idx` in bits 12:9, BTR0 in 23:16, BTR1 in 31:24,
`opmode` in 39:32, `exmode` in 47:40, `busload` in 55:48, `ctrlstat` in 63:56, `linrate` in 95:64, `A` in 199:96, `B` in
303:200; and inside a tuple (rule R75), from the top: `tdo`, `sjw`, `ts2`, `ts1`, `presc`, `mode`. -/

/-- `(0x01, 4, 15, 4, 4, 64)` (95_test_vectors.md S6). -/
def vIfi : BT2Val := ⟨0x01, 4, 15, 4, 4, 64⟩

/-- `(0x00, 500000, 14, 2, 1, 0)`. -/
def v500 : BT2Val := ⟨0x00, 500000, 14, 2, 1, 0⟩

/-- `(0x00, 1000000, 1600, 400, 400, 1600)` (95_test_vectors.md S7). -/
def vFd : BT2Val := ⟨0x00, 1000000, 1600, 400, 400, 1600⟩

theorem test_decode_nop : decode 0x00 = .ok .nop := by decide

theorem test_decode_btSet : decode 0x1C010010 = .ok (.btSet 0x01 0x1C) := by decide

theorem test_decode_btPreset : decode 0x0A11 = .ok (.btPreset 5) := by decide

theorem test_decode_btPcia : decode 0x0812 = .ok (.btPcia 4) := by decide

theorem test_decode_bt_reads :
    decode 0x13 = .ok .btRd0 ∧ decode 0x14 = .ok .btRd1 ∧ decode 0x15 = .ok .btU16 ∧ decode 0x16 = .ok .btBrp ∧
    decode 0x17 = .ok .btTs1 ∧ decode 0x18 = .ok .btTs2 ∧ decode 0x19 = .ok .btTicks := by decide

theorem test_decode_btEq : decode 0x1C41001A = .ok (.btEq 0x41 0x1C) := by decide

theorem test_decode_bt2Set :
    decode 0x4000040004000F0000000401000000000000000000000120 = .ok (.bt2Set .s1 vIfi) := by decide

theorem test_decode_bt2_presets :
    decode 0x0A21 = .ok (.bt2Pcia .s0 5) ∧ decode 0x0B21 = .ok (.bt2Pcia .s1 5) ∧ decode 0x0022 = .ok (.bt2Pifi .s0 0) ∧
    decode 0x1F23 = .ok (.bt2Pfd .s1 15) := by decide

theorem test_decode_bt2_reads :
    decode 0x0024 = .ok (.bt2Rdmode .s0) ∧ decode 0x0125 = .ok (.bt2Rdpresc .s1) ∧
    decode 0x0126 = .ok (.bt2Rdts1 .s1) ∧ decode 0x0127 = .ok (.bt2Rdts2 .s1) ∧ decode 0x0028 = .ok (.bt2Rdsjw .s0) ∧
    decode 0x0129 = .ok (.bt2Rdtdo .s1) ∧ decode 0x012A = .ok (.bt2Ticks .s1) := by decide

theorem test_decode_bt2Eq :
    decode 0x010002000E0007A1200000000000000000000000002B = .ok (.bt2Eq .s0 v500) := by decide

theorem test_decode_fdpSet :
    decode 0x0640019001900640000F424000000000010002000E0007A12000000000000000000000000030 =
      .ok (.fdpSet v500 vFd) := by decide

theorem test_decode_fdpSingle :
    decode 0x010002000E0003D09000000000000000000000000031 = .ok (.fdpSingle ⟨0, 250000, 14, 2, 1, 0⟩) := by decide

theorem test_decode_fdp_presets :
    decode 0x0E32 = .ok (.fdpPcia 7) ∧ decode 0x0033 = .ok (.fdpPshort 0) ∧ decode 0x1E34 = .ok (.fdpPlong 15) := by decide

theorem test_decode_cstLd : decode 0x0925002D1C010040 = .ok (.cstLd 0x2D 37 0x09 0x01 0x1C) := by decide

theorem test_decode_cst2Ld :
    decode 0x0640019001900640000F424000000000010002000E0007A12000000000001050030200000041 =
      .ok (.cst2Ld 0x02 0x03 80 0x10 v500 vFd) := by decide

theorem test_decode_lstLd : decode 0x4B00100C000100000042 = .ok (.lstLd 0x01 12 0x10 19200) := by decide

theorem test_decode_cst_uses :
    decode 0x50 = .ok .cstDec ∧ decode 0x51 = .ok .cstRdop ∧ decode 0x52 = .ok .cstRdload ∧ decode 0x53 = .ok .cstRdstat ∧
    decode 0x54 = .ok .cstGetbt := by decide

theorem test_decode_cst2_uses :
    decode 0x60 = .ok .cst2Dec ∧ decode 0x61 = .ok .cst2Rdop ∧ decode 0x62 = .ok .cst2Rdex ∧ decode 0x63 = .ok .cst2Rdload ∧
    decode 0x64 = .ok .cst2Rdstat ∧ decode 0x65 = .ok .cst2Getbt := by decide

theorem test_decode_lst_uses :
    decode 0x70 = .ok .lstDec ∧ decode 0x71 = .ok .lstRdop ∧ decode 0x72 = .ok .lstRdload ∧ decode 0x73 = .ok .lstRdstat ∧
    decode 0x74 = .ok .lstRdrate := by decide

/-- V-FLT-1 and V-ENC-2: unassigned opcodes are rejected by name. -/
theorem test_decode_rejects_unassigned :
    decode 0x01 = .error (.illegalOpcode 0x01) ∧ decode 0x1B = .error (.illegalOpcode 0x1B) ∧
    decode (BitVec.allOnes 304) = .error (.illegalOpcode 0xFF) := by decide

/-- Section 2.9: the encoder writes the spec's words. -/
theorem test_encode_spec_words :
    encode (.bt2Set .s1 vIfi) = 0x4000040004000F0000000401000000000000000000000120 ∧
    encode (.cst2Ld 0x02 0x03 80 0x10 v500 vFd) =
      0x0640019001900640000F424000000000010002000E0007A12000000000001050030200000041 ∧
    encode (.bt2Pcia .s1 9) = 0x1321 := by decide

/-- Rule R81 on the word of `BT.PRESET #5`: 76 digits, the last four `0A11`; and its line. -/
theorem test_assembler_notation :
    (hexDigits (encode (.btPreset 5))).length = 76 ∧ (hexDigits (encode (.btPreset 5))).drop 72 = ['0', 'A', '1', '1'] ∧
    asmLine .caller (.btPreset 5) = "C: BT.PRESET #5" := by decide

/-! ## One step of every operation -/

/-- The reset state with the DRIVER asking. -/
def driverReset : State := { State.reset with agent := .driver }

/-- Reset state with a classic pair loaded. -/
def withBt (btr0 btr1 : Byte) : State := { State.reset with bt := some ⟨btr0, btr1⟩ }

/-- Reset state with both slots loaded. -/
def withPair (a b : BT2Val) : State := { State.reset with bt2s0 := some a, bt2s1 := some b }

/-- Reset state with a classic CAN snapshot. -/
def withCst (opmode busload ctrlstat : Byte) : State :=
  { State.reset with cst := some ⟨opmode, busload, ctrlstat, 0x01, 0x1C⟩ }

/-- Reset state with an extended CAN snapshot. -/
def withCst2 (opmode exmode busload ctrlstat : Byte) : State :=
  { State.reset with cst2 := some ⟨opmode, exmode, busload, ctrlstat, v500, vFd⟩ }

/-- Reset state with a LIN snapshot. -/
def withLst (opmode busload ctrlstat : Byte) (rate : Word) : State :=
  { State.reset with lst := some ⟨opmode, busload, ctrlstat, rate⟩ }

/-- The response of an operation as fault code and result. -/
def answer (r : Result) : Option (Nat × Nat) :=
  match r with
  | .next s => s.rsp.map fun a => (a.fault.toNat, a.res.toNat)
  | .fault _ => none
  | .refused _ => none

/-- What an operation leaves in a part of the state. -/
def leaves {α : Type} (r : Result) (part : State → α) : Option α :=
  match r with
  | .next s => some (part s)
  | .fault _ => none
  | .refused _ => none

/-- V-FLT-11. -/
theorem test_nop_both_agents : answer (exec .nop State.reset) = some (0, 0) ∧ answer (exec .nop driverReset) = some (0, 0) := by
  decide

/-- P1: the pair is stored as given. V-FLT-3: not by a DRIVER. -/
theorem test_btSet :
    leaves (exec (.btSet 0x01 0x1C) State.reset) State.bt = some (some ⟨0x01, 0x1C⟩) ∧
    answer (exec (.btSet 1 2) driverReset) = some (2, 0) ∧ leaves (exec (.btSet 1 2) driverReset) State.bt = some none := by
  decide

/-- S3 and V-BT-5. -/
theorem test_btPreset :
    leaves (exec (.btPreset 5) State.reset) State.bt = some (some ⟨0x01, 0x1C⟩) ∧
    answer (exec (.btPreset 9) State.reset) = some (3, 0) ∧ leaves (exec (.btPreset 9) State.reset) State.bt = some none :=
  ⟨rfl, rfl, rfl⟩

/-- V-BT-6 and V-BT-5: `BT.PCIA #4` is the 250 kbit/s pair, for the list has no 100 kbit/s entry. -/
theorem test_btPcia :
    leaves (exec (.btPcia 4) State.reset) State.bt = some (some ⟨0x01, 0x1C⟩) ∧
    answer (exec (.btPcia 8) State.reset) = some (3, 0) := ⟨rfl, rfl⟩

/-- Section 2.1, row 0x47/0x2F. -/
theorem test_btRd0_btRd1 :
    answer (exec .btRd0 (withBt 0x47 0x2F)) = some (0, 0x47) ∧ answer (exec .btRd1 (withBt 0x47 0x2F)) = some (0, 0x2F) := by
  decide

/-- Section 2.1: BTR1 is the high byte. -/
theorem test_btU16 :
    answer (exec .btU16 (withBt 0x01 0x1C)) = some (0, 0x1C01) ∧ answer (exec .btU16 (withBt 0xFF 0x00)) = some (0, 0x00FF) := by
  decide

/-- Section 2.1, rows 0x40/0x1C and 0x80/0x8F: `btr0[7:6]` and `btr1[7]` are ignored. -/
theorem test_btBrp_btTs1_btTs2 :
    answer (exec .btBrp (withBt 0xFF 0x1C)) = some (0, 63) ∧ answer (exec .btTs1 (withBt 0x40 0x1C)) = some (0, 12) ∧
    answer (exec .btTs2 (withBt 0x80 0xF0)) = some (0, 7) ∧ answer (exec .btTs2 (withBt 0x80 0x8F)) = some (0, 0) := by decide

/-- Section 2.1: the source's example, the minimum, the maximum and a mixed row. -/
theorem test_btTicks :
    answer (exec .btTicks (withBt 0x01 0x1C)) = some (0, 64) ∧ answer (exec .btTicks (withBt 0xC0 0x80)) = some (0, 6) ∧
    answer (exec .btTicks (withBt 0xFF 0xFF)) = some (0, 3200) ∧ answer (exec .btTicks (withBt 0x47 0x2F)) = some (0, 320) := by
  decide

/-- V-BT-4: the valid bit. V-FLT-6: the agent before it. -/
theorem test_btTicks_faults :
    answer (exec .btTicks State.reset) = some (4, 0) ∧ leaves (exec .btTicks State.reset) State.err = some 4 ∧
    answer (exec .btTicks driverReset) = some (2, 0) := by decide

/-- V-BT-1. -/
theorem test_btEq :
    answer (exec (.btEq 0x00 0x1C) (withBt 0x40 0x1C)) = some (0, 0) ∧
    answer (exec (.btEq 0x40 0x1C) (withBt 0x40 0x1C)) = some (0, 1) := by decide

/-- V-BT2-1: the extremes are stored, in one slot only. -/
theorem test_bt2Set :
    leaves (exec (.bt2Set .s0 ⟨0xFF, 0xFFFFFFFF, 0xFFFF, 0xFFFF, 0xFFFF, 0xFFFF⟩) State.reset) (fun s => (s.bt2s0, s.bt2s1)) =
      some (some ⟨0xFF, 0xFFFFFFFF, 0xFFFF, 0xFFFF, 0xFFFF, 0xFFFF⟩, none) := by decide

/-- V-BT2-6, row 6, and V-BT2-7. -/
theorem test_bt2Pcia :
    leaves (exec (.bt2Pcia .s1 6) State.reset) State.bt2s1 = some (some ⟨0, 800000, 8, 2, 1, 0⟩) ∧
    answer (exec (.bt2Pcia .s0 8) State.reset) = some (3, 0) := by decide

/-- S6 and V-BT2-7. -/
theorem test_bt2Pifi :
    leaves (exec (.bt2Pifi .s0 0) State.reset) State.bt2s0 = some (some vIfi) ∧
    answer (exec (.bt2Pifi .s0 7) State.reset) = some (3, 0) := ⟨rfl, rfl⟩

/-- V-BT2-8: an open entry is loaded, and raw. -/
theorem test_bt2Pifi_open_entry :
    ∃ v, leaves (exec (.bt2Pifi .s0 3) State.reset) State.bt2s0 = some (some (asRaw v)) := ⟨Config.ifiOpen 3, rfl⟩

/-- Rule R56: the first entry has the rate 250 kbit/s, whatever else the table leaves open. -/
theorem test_bt2Pfd_first_rate :
    ∃ v, leaves (exec (.bt2Pfd .s0 0) State.reset) State.bt2s0 = some (some v) ∧ v.presc = 250000 :=
  ⟨canfdEntryAt 250000 Config.canfdFirstOpen, rfl, by unfold canfdEntryAt legalOr; split <;> rfl⟩

/-- S7: the source's 1000 kbit/s values, read field by field. -/
theorem test_bt2_reads :
    answer (exec (.bt2Rdmode .s0) (withPair vIfi vFd)) = some (0, 1) ∧
    answer (exec (.bt2Rdpresc .s1) (withPair vIfi vFd)) = some (0, 0x000F4240) ∧
    answer (exec (.bt2Rdts1 .s1) (withPair vIfi vFd)) = some (0, 1600) ∧
    answer (exec (.bt2Rdts2 .s0) (withPair vIfi vFd)) = some (0, 4) ∧
    answer (exec (.bt2Rdsjw .s1) (withPair vIfi vFd)) = some (0, 400) ∧
    answer (exec (.bt2Rdtdo .s0) (withPair vIfi vFd)) = some (0, 64) := by decide

/-- S11: the sentinel. V-BT2-3: `NOVAL` from a slot that holds nothing. -/
theorem test_bt2Ticks :
    answer (exec (.bt2Ticks .s1) (withPair vIfi vFd)) = some (0, 0) ∧ answer (exec (.bt2Ticks .s1) State.reset) = some (4, 0) := by
  decide

/-- S5, V-BT2-4: one field off, and a reserved bit of `mode`. -/
theorem test_bt2Eq :
    answer (exec (.bt2Eq .s0 vIfi) (withPair vIfi vFd)) = some (0, 1) ∧
    answer (exec (.bt2Eq .s0 ⟨0x01, 4, 15, 4, 4, 65⟩) (withPair vIfi vFd)) = some (0, 0) ∧
    answer (exec (.bt2Eq .s0 ⟨0x05, 4, 15, 4, 4, 64⟩) (withPair vIfi vFd)) = some (0, 0) := by decide

/-- P2, step 1, and V-FDP-6. -/
theorem test_fdpSet :
    leaves (exec (.fdpSet v500 vFd) State.reset) (fun s => (s.bt2s0, s.bt2s1)) = some (some v500, some vFd) ∧
    answer (exec (.fdpSet v500 vFd) driverReset) = some (2, 0) := by decide

/-- V-FDP-1. -/
theorem test_fdpSingle :
    leaves (exec (.fdpSingle v500) State.reset) (fun s => (s.bt2s0, s.bt2s1)) = some (some v500, some v500) := by decide

/-- V-FDP-2 and V-FDP-3. -/
theorem test_fdpPcia :
    leaves (exec (.fdpPcia 7) State.reset) (fun s => (s.bt2s0, s.bt2s1)) =
      some (some ⟨0, 1000000, 6, 2, 1, 0⟩, some ⟨0, 1000000, 6, 2, 1, 0⟩) ∧
    answer (exec (.fdpPcia 8) State.reset) = some (3, 0) := by decide

/-- V-FDP-7: index 0 succeeds, for every open table has an entry (rule R58). -/
theorem test_fdpPshort_fdpPlong :
    answer (exec (.fdpPshort 0) State.reset) = some (0, 0) ∧ answer (exec (.fdpPlong 0) State.reset) = some (0, 0) :=
  ⟨rfl, rfl⟩

/-- P3, steps 2 and 3. -/
theorem test_cstLd :
    answer (exec (.cstLd 0x2D 37 0x09 0x01 0x1C) State.reset) = some (2, 0) ∧
    leaves (exec (.cstLd 0x2D 37 0x09 0x01 0x1C) driverReset) (fun s => (s.cst, s.bt)) =
      some (some ⟨0x2D, 37, 0x09, 0x01, 0x1C⟩, none) := by decide

/-- P4, step 1. -/
theorem test_cst2Ld :
    leaves (exec (.cst2Ld 0x02 0x03 80 0x10 v500 vFd) driverReset) State.cst2 =
      some (some ⟨0x02, 0x03, 80, 0x10, v500, vFd⟩) := by decide

/-- P4, step 6, and V-LST-3. -/
theorem test_lstLd :
    leaves (exec (.lstLd 0x01 12 0x10 19200) driverReset) State.lst = some (some ⟨0x01, 12, 0x10, 19200⟩) ∧
    answer (exec (.lstLd 0x01 12 0x10 19200) State.reset) = some (2, 0) := by decide

/-- Section 2.5: the example of rule R166, both mode bits, and every flag. -/
theorem test_cstDec :
    answer (exec .cstDec (withCst 0x2D 37 0x09)) = some (0, 0x4DA) ∧ answer (exec .cstDec (withCst 0x03 0 0x00)) = some (0, 0) ∧
    answer (exec .cstDec (withCst 0xFF 0 0xFF)) = some (0, 0x1FF8) ∧
    answer (exec .cstDec (withCst 0x09 0 0x0C)) = some (0, 0x612) := by decide

/-- P3; V-CST-1: the bus load is not clamped. -/
theorem test_cst_reads :
    answer (exec .cstRdop (withCst 0x2D 37 0x09)) = some (0, 0x2D) ∧ answer (exec .cstRdload (withCst 0x01 255 0x00)) = some (0, 255) ∧
    answer (exec .cstRdstat (withCst 0x2D 37 0x09)) = some (0, 9) := by decide

/-- P3, step 6, and V-CST-3. -/
theorem test_cstGetbt :
    leaves (exec .cstGetbt (withCst 0x2D 37 0x09)) (fun s => (s.bt, s.res)) = some (some ⟨0x01, 0x1C⟩, 0) ∧
    answer (exec .cstGetbt State.reset) = some (4, 0) := by decide

/-- V-CST2-11 and V-CST2-12, for both values of the parameter. -/
theorem test_cst2Word_both_parameters :
    cst2Word true ⟨0x02, 0x03, 80, 0x10, v500, vFd⟩ = 0x6804 ∧ cst2Word false ⟨0x02, 0x03, 80, 0x10, v500, vFd⟩ = 0x16804 ∧
    cst2Word true ⟨0x05, 0x07, 0, 0x00, v500, vFd⟩ = 0x1E00A ∧ cst2Word false ⟨0x05, 0x07, 0, 0x00, v500, vFd⟩ = 0xE00A := by
  decide

/-- V-CST2-10: where bits 1 and 2 of `opmode` agree, the open parameter does not show. -/
theorem test_cst2Dec : answer (exec .cst2Dec (withCst2 0x06 0x03 0 0x10)) = some (0, 0x1680C) := by
  show some (0, (cst2Word Config.extenTestsErrframe _).toNat) = _
  cases Config.extenTestsErrframe <;> rfl

/-- P4. -/
theorem test_cst2_reads :
    answer (exec .cst2Rdop (withCst2 0x02 0x03 80 0x10)) = some (0, 2) ∧ answer (exec .cst2Rdex (withCst2 0x02 0x03 80 0x10)) = some (0, 3) ∧
    answer (exec .cst2Rdload (withCst2 0x02 0x03 80 0x10)) = some (0, 80) ∧
    answer (exec .cst2Rdstat (withCst2 0x02 0x03 80 0x10)) = some (0, 16) := by decide

/-- P4, step 3. -/
theorem test_cst2Getbt :
    leaves (exec .cst2Getbt (withCst2 0x02 0x03 80 0x10)) (fun s => (s.bt2s0, s.bt2s1, s.res)) =
      some (some v500, some vFd, 0) := by decide

/-- Section 2.7. -/
theorem test_lstDec :
    answer (exec .lstDec (withLst 0x01 12 0x10 19200)) = some (0, 0x12) ∧ answer (exec .lstDec (withLst 0xFE 0 0xEE 0)) = some (0, 5) ∧
    answer (exec .lstDec (withLst 0xFF 0 0xFF 0)) = some (0, 0x1E) ∧ answer (exec .lstDec (withLst 0x00 0 0x02 0)) = some (0, 1) := by
  decide

/-- V-LST-1 and V-LST-2. -/
theorem test_lst_reads :
    answer (exec .lstRdop (withLst 0x01 12 0x10 19200)) = some (0, 1) ∧ answer (exec .lstRdload (withLst 0x01 12 0x10 19200)) = some (0, 12) ∧
    answer (exec .lstRdstat (withLst 0x01 12 0x10 19200)) = some (0, 16) ∧
    answer (exec .lstRdrate (withLst 0 0 0 0xFFFFFFFF)) = some (0, 0xFFFFFFFF) := by decide

/-- V-FLT-9: `ERR` keeps the first fault, the response reports each. V-FLT-5: the agent before the index. -/
theorem test_err_keeps_first_fault :
    answer (exec (.btPreset 9) { State.reset with err := 4 }) = some (3, 0) ∧
    leaves (exec (.btPreset 9) { State.reset with err := 4 }) State.err = some 4 ∧
    answer (exec (.btPreset 9) driverReset) = some (2, 0) := ⟨rfl, rfl, rfl⟩

/-- V-FLT-12: an illegal opcode keeps `RES`; V-FLT-2: from either agent. -/
theorem test_step_illegal_opcode :
    answer (step { State.reset with callerPort := [0x1B], res := 64 }) = some (1, 64) ∧
    answer (step { State.reset with driverPort := [0xFF] }) = some (1, 0) := by decide

/-- V-ENC-1: the junk word of `BT.TICKS`, taken by a step. -/
theorem test_step_ignores_unused_fields :
    answer (step { withBt 0x01 0x1C with
      callerPort := [0x789A3456F012BCDE3456789A12FFFFFFFFFFFFFFFFFFFFFFFFFFDEADBEEF000000FF55AAFF19] }) = some (0, 64) := by decide

/-- Rule R241: the reset input drops a waiting request. -/
theorem test_step_reset :
    leaves (step (State.assertRst { withBt 0x01 0x1C with callerPort := [0x19], err := 4 })) (fun s => (s.bt, s.err, s.callerPort, s.rsp)) =
      some (none, 0, [], none) := by decide

/-- `withFetchWord` presents a driver load from the DRIVER: P3, step 3. -/
theorem test_withFetchWord :
    leaves (step (State.reset.withFetchWord 304 0x0925002D1C010040)) State.cst = some (some ⟨0x2D, 37, 0x09, 0x01, 0x1C⟩) := by
  decide

/-- Rule R67: an agent's next request goes behind those it has issued; rule R42: outputs of a loaded pair. -/
theorem test_present_and_outputs :
    ((State.reset.present .caller 0x13).present .caller 0x14).callerPort = [0x13, 0x14] ∧
    (withBt 0x01 0x1C).outputs.oBtBtr1 = some 0x1C ∧ (withBt 0x01 0x1C).outputs.oBtV = true ∧
    State.reset.outputs.oBtBtr0 = none := by decide

/-! ## Witnesses: for every obligation with hypotheses, a state and operands that meet them

One theorem per obligation, named after it; where a statement has several clauses, each clause's hypotheses at a boundary
value. -/

/-- The junk word of V-ENC-1. -/
def junkTicks : ReqWord := 0x789A3456F012BCDE3456789A12FFFFFFFFFFFFFFFFFFFFFFFFFFDEADBEEF000000FF55AAFF19

/-- Every holding register valid, a result in `RES`, a fault recorded. -/
def fullState : State :=
  { State.reset with
    bt := some ⟨0x01, 0x1C⟩, bt2s0 := some vIfi, bt2s1 := some vFd, cst := some ⟨0x2D, 100, 0x09, 0x01, 0x1C⟩,
    cst2 := some ⟨0x02, 0x03, 100, 0x10, v500, vFd⟩, lst := some ⟨0x01, 12, 0x10, 19200⟩, res := 64, err := 4 }

/-- The same with the DRIVER asking. -/
def fullDriver : State := { fullState with agent := .driver }

theorem witness_DecodeEncodeRoundTrip :
    WellFormed (.bt2Pfd .s1 15) = true ∧ WellFormed (.fdpPlong 0) = true ∧ WellFormed (.fdpSet vIfi vFd) = true := by decide

theorem witness_DecodedInstructionIsWellFormed : decode 0x1F23 = .ok (.bt2Pfd .s1 15) := by decide

theorem witness_DecodeIgnoresUnusedFields :
    junkTicks ≠ 0x19 ∧
    junkTicks &&& usedBits (BitVec.ofNat 8 (opcodeNat junkTicks)) = 0x19 &&& usedBits (BitVec.ofNat 8 (opcodeNat junkTicks)) := by
  decide

theorem witness_ReservedRequestBitsIgnored :
    ∀ k, k ≠ 13 → k ≠ 14 → k ≠ 15 → (0xEA11 : ReqWord).getLsbD k = (0x0A11 : ReqWord).getLsbD k := by
  intro k h13 h14 h15
  by_cases hk : k < 16
  · interval_cases k <;> first | rfl | omega
  · have h : 2 ^ 16 ≤ 2 ^ k := Nat.pow_le_pow_right (by decide) (by omega)
    simp only [BitVec.getLsbD]
    rw [Nat.testBit_lt_two_pow (lt_of_lt_of_le (by decide) h), Nat.testBit_lt_two_pow (lt_of_lt_of_le (by decide) h)]

theorem witness_StepRunsTheDecodedRequest :
    State.reset.rst = false ∧ decode 0x0A11 = .ok (.btPreset 5) ∧
    ({ State.reset with callerPort := [0x0A11] } : State).driverPort = [] ∧
    ({ State.reset with driverPort := [0x0A11, 0x19] } : State).callerPort = [] := by decide

theorem witness_FetchWordRunsNext :
    decodeTableWord 304 0x0A11 = some (.btPreset 5) ∧
    decodeTableWord 96 0x4B00100C000100000042 = some (.lstLd 0x01 12 0x10 19200) := by decide

/-- A CST.DEC of the CALLER and a CST.LD of the DRIVER wait, with the CALLER ahead for `more` further ties. -/
def bothWait (more : Nat) : State :=
  { State.reset with callerPort := [0x50], driverPort := [0x0925002D1C010040], lead := some (.caller, more) }

/-- Rule R249: the agent ahead goes first while it has ties left, and then the request it has passed over. -/
theorem test_tie_caller_ahead :
    (match step (bothWait 1) with | .next t => (t.driverPort.length, t.rsp, t.lead) | _ => (0, none, none)) =
      (1, some ⟨.caller, 4, 0⟩, some (.caller, 0)) := by decide

theorem test_tie_driver_at_last :
    (match step (bothWait 0) with | .next t => (t.callerPort.length, t.rsp, t.lead) | _ => (0, none, none)) =
      (1, some ⟨.driver, 0, 0⟩, none) := by decide

theorem witness_TieTakesOneOfTheTwoRequests :
    ({ State.reset with callerPort := [0x50], driverPort := [0x1B] } : State).rst = false ∧
    decode 0x50 = .ok .cstDec ∧ opcodeNat 0x1B ∉ assignedOpcodes := by decide

theorem witness_RequestsRunInIssueOrder :
    ({ State.reset with callerPort := [0x0A11, 0x19, 0x1B] } : State).rst = false ∧
    ({ State.reset with callerPort := [0x0A11, 0x19, 0x1B] } : State).driverPort = [] ∧
    ({ State.reset with driverPort := [0x00, 0x19, 0x1B] } : State).callerPort = [] ∧
    ∃ t, runPresenting [[(.caller, 0x0A11)], [(.driver, 0x00)], []] State.reset = .next t ∧ t.bt = some ⟨0x01, 0x1C⟩ :=
  ⟨rfl, rfl, rfl, _, rfl, rfl⟩

theorem witness_StepWithNothingWaitingWaits :
    fullState.rst = false ∧ fullState.callerPort = [] ∧ fullState.driverPort = [] := by decide

theorem witness_EveryWaitingRequestIsAnswered :
    ({ State.reset with driverPort := [0x1B] } : State).rst = false ∧
    ({ State.reset with driverPort := [0x1B] } : State).driverPort ≠ [] ∧
    ({ State.reset with callerPort := [0x1B] } : State).callerPort ≠ [] := by decide

theorem witness_WaitingRequestsDrain :
    ({ State.reset with callerPort := [0x0A11, 0x19], driverPort := [0x00] } : State).rst = false := by decide

theorem witness_IllegalOpcodeRaisesIllop :
    opcodeNat 0x1B ∉ assignedOpcodes ∧ opcodeNat 0xFF ∉ assignedOpcodes ∧ opcodeNat 0x0F ∉ assignedOpcodes ∧
    ({ State.reset with callerPort := [0x1B] } : State).driverPort = [] ∧
    ({ State.reset with driverPort := [0xFF] } : State).callerPort = [] := by decide

theorem witness_OnlyResetClearsValidBitsAndErr :
    fullState.rst = false ∧ (∃ t, step { fullState with callerPort := [0x1A] } = .next t) ∧ fullState.bt.isSome ∧
    fullState.bt2s0.isSome ∧ fullState.bt2s1.isSome ∧ fullState.cst.isSome ∧ fullState.cst2.isSome ∧
    fullState.lst.isSome ∧ fullState.err ≠ 0 :=
  ⟨rfl, ⟨_, rfl⟩, rfl, rfl, rfl, rfl, rfl, rfl, by decide⟩

theorem witness_OperationsRightAfterReset :
    mayIssue .caller (.btPreset 8) = true ∧ indexOk (.btPreset 8) = true ∧ (infoOf (.btPreset 8)).reads.isSome = false ∧
    mayIssue .caller .cstGetbt = true ∧ indexOk .cstGetbt = true ∧ (infoOf .cstGetbt).reads.isSome = true ∧
    mayIssue .driver (.lstLd 0 0 0 0) = true ∧ indexOk (.lstLd 0 0 0 0) = true := by decide

theorem witness_FaultChangesNothingButErr :
    faultOf .btRd0 State.reset ≠ 0 ∧ faultOf .btRd0 fullDriver ≠ 0 ∧ faultOf (.btPreset 9) fullState ≠ 0 := by decide

theorem witness_PrivAnswersExactlyTheWrongAgent :
    exec .btTicks fullDriver = .next (fullDriver.faulted 2) ∧
    (fullDriver.faulted 2).rsp = some ⟨.driver, 2, 64⟩ ∧ exec .nop fullDriver = .next fullDriver.done ∧
    fullDriver.done.rsp = some ⟨.driver, 0, 64⟩ := ⟨rfl, rfl, rfl, rfl⟩

theorem witness_OnlyDriverLoadsChangeSnapshots :
    (∃ t, exec (.cstLd 0 0 0 0 0) fullDriver = .next t ∧ t.cst ≠ fullDriver.cst) ∧
    (∃ t, exec (.cst2Ld 0 0 0 0 vIfi vFd) fullDriver = .next t ∧ t.cst2 ≠ fullDriver.cst2) ∧
    (∃ t, exec (.lstLd 0 0 0 0) fullDriver = .next t ∧ t.lst ≠ fullDriver.lst) :=
  ⟨⟨_, rfl, by decide⟩, ⟨_, rfl, by decide⟩, ⟨_, rfl, by decide⟩⟩

theorem witness_DriverNeverChangesCallerRegisters :
    fullDriver.agent = .driver ∧ ∃ t, exec (.btSet 0 0) fullDriver = .next t := ⟨rfl, _, rfl⟩

theorem witness_ErrKeepsTheFirstFaultAlongRuns :
    ({ fullState with callerPort := [0x1B, 0x0A11] } : State).rst = false ∧
    ({ fullState with callerPort := [0x1B, 0x0A11] } : State).err ≠ 0 ∧
    ∃ t, Sys2Proof.core.run 3 { fullState with callerPort := [0x1B, 0x0A11] } = .next t := ⟨rfl, by decide, _, rfl⟩

/-- A state that has answered `PRIV`. -/
def afterPriv : State := { fullDriver with rsp := some ⟨.driver, 2, 64⟩, callerPort := [0x19] }

theorem witness_StepKeepsInvariant : afterPriv.Inv ∧ ∃ t, step afterPriv = .next t :=
  ⟨⟨by decide, fun r hr => by cases hr; decide⟩, _, rfl⟩

theorem witness_StepKeepsBusloadDuty :
    ({ fullState with driverPort := [0x0064002D1C010040] } : State).BusloadDuty ∧
    decode 0x0064002D1C010040 = .ok (.cstLd 0x2D 100 0x00 0x01 0x1C) ∧
    ∃ t, step { fullState with driverPort := [0x0064002D1C010040] } = .next t := by
  refine ⟨⟨fun x hx => ?_, fun x hx => ?_, fun w hw => ?_⟩, by decide, _, rfl⟩
  · cases hx; decide
  · cases hx; decide
  · obtain rfl : w = 0x0064002D1C010040 := by simpa using hw
    have h : decode 0x0064002D1C010040 = .ok (.cstLd 0x2D 100 0x00 0x01 0x1C) := by decide
    unfold busloadOk
    rw [h]
    decide

theorem witness_ReadsChangeOnlyResAndRepeat :
    (infoOf .btTicks).readType = true ∧ faultOf .btTicks fullState = 0 ∧ (∃ t, exec .btTicks fullState = .next t) ∧
    ∃ t, exec .btTicks State.reset = .next t := ⟨rfl, by decide, ⟨_, rfl⟩, _, rfl⟩

theorem witness_OnlyReadsWriteRes :
    (infoOf .cstGetbt).readType = false ∧ ∃ t, exec .cstGetbt fullState = .next t := ⟨rfl, _, rfl⟩

theorem witness_HoldingRegistersHaveTheirWriters :
    (∃ t, exec (.fdpSet vIfi vFd) State.reset = .next t) ∧ faultOf (.fdpSet vIfi vFd) State.reset = 0 ∧
    Reg.bt2 .s1 ∈ (infoOf (.fdpSet vIfi vFd)).writes ∧ Reg.bt ∉ (infoOf (.fdpSet vIfi vFd)).writes :=
  ⟨⟨_, rfl⟩, by decide, by decide, by decide⟩

theorem witness_OutputsShowTheRegisters :
    fullState.bt = some ⟨0x01, 0x1C⟩ ∧ fullState.bt2s0 = some vIfi ∧ fullState.bt2s1 = some vFd := by decide

theorem witness_NopChangesNothing : Instr.btTicks ≠ .nop ∧ Instr.lstLd 0 0 0 0 ≠ .nop := by decide

/-- Both agents, for the rules of operations that read no register: `BtSetLoadsThePair`, `BtTwoSetLoadsOneSlot`,
`FdpLoadsWriteBothSlots` and `SnapshotLoadsStoreTheFields`. -/
theorem witness_BtSetLoadsThePair : fullState.agent = .caller ∧ fullDriver.agent = .driver := by decide

theorem witness_BtTwoSetLoadsOneSlot : State.reset.agent = .caller ∧ driverReset.agent = .driver := by decide

theorem witness_FdpLoadsWriteBothSlots : (withPair vIfi vFd).agent = .caller ∧ fullDriver.agent = .driver := by decide

theorem witness_SnapshotLoadsStoreTheFields : driverReset.agent = .driver ∧ (withCst 0 0 0).agent = .caller := by decide

theorem witness_BtPresetsLoadTableEntries :
    State.reset.agent = .caller ∧ 8 < 9 ∧ 9 ≤ 9 ∧ 7 < 8 ∧ 8 ≤ 8 ∧ driverReset.agent = .driver := by decide

theorem witness_BtTwoPresetsLoadTableEntries :
    (0x21, Instr.bt2Pcia, presetCia2, 8) ∈
      [(0x21, Instr.bt2Pcia, presetCia2, 8), (0x22, Instr.bt2Pifi, presetIfi, 7),
       (0x23, Instr.bt2Pfd, presetCanfd, nCanfd)] ∧
    State.reset.agent = .caller ∧ 7 < 8 ∧ 8 ≤ 8 ∧ 6 < 7 ∧ 7 ≤ 7 ∧ 0 < nCanfd ∧ nCanfd ≤ nCanfd ∧
    driverReset.agent = .driver :=
  ⟨.head _, rfl, by decide, by decide, by decide, by decide, Nat.zero_lt_succ _, Nat.le_refl _, rfl⟩

theorem witness_FdpPresetsLoadTableEntries :
    (0x32, Instr.fdpPcia, pairCia, 8) ∈
      [(0x32, Instr.fdpPcia, pairCia, 8), (0x33, Instr.fdpPshort, pairShort, nShort),
       (0x34, Instr.fdpPlong, pairLong, nLong)] ∧
    State.reset.agent = .caller ∧ 7 < 8 ∧ 8 ≤ 8 ∧ 0 < nShort ∧ nShort ≤ nShort ∧ 0 < nLong ∧ nLong ≤ nLong ∧
    driverReset.agent = .driver :=
  ⟨.head _, rfl, by decide, by decide, Nat.zero_lt_succ _, Nat.le_refl _, Nat.zero_lt_succ _, Nat.le_refl _, rfl⟩

theorem witness_BtReadsGiveTheDecodedFields :
    fullState.agent = .caller ∧ fullState.bt = some ⟨0x01, 0x1C⟩ ∧ State.reset.agent = .caller ∧ State.reset.bt = none ∧
    fullDriver.agent = .driver := by decide

theorem witness_BtTicksGivesAnEvenBoundedBitTime :
    (withBt 0xFF 0xFF).agent = .caller ∧ (withBt 0xFF 0xFF).bt = some ⟨0xFF, 0xFF⟩ ∧ State.reset.agent = .caller ∧
    State.reset.bt = none ∧ fullDriver.agent = .driver := by decide

theorem witness_BtEqComparesTheRawPair :
    (withBt 0x40 0x1C).agent = .caller ∧ (withBt 0x40 0x1C).bt = some ⟨0x40, 0x1C⟩ ∧ State.reset.agent = .caller ∧
    State.reset.bt = none ∧ driverReset.agent = .driver := by decide

theorem witness_BtPciaSkipsThe100kPreset : 2 < 8 ∧ 3 < 8 ∧ 7 < 8 := by decide

theorem witness_BtTwoReadsGiveTheFields :
    fullState.agent = .caller ∧ fullState.bt2 .s0 = some vIfi ∧ fullState.bt2 .s1 = some vFd ∧
    State.reset.agent = .caller ∧ State.reset.bt2 .s0 = none ∧ State.reset.bt2 .s1 = none ∧
    fullDriver.agent = .driver := by decide

theorem witness_BtTwoEqComparesAllSixFields :
    (withPair vIfi vFd).agent = .caller ∧ (withPair vIfi vFd).bt2 .s0 = some vIfi ∧ State.reset.agent = .caller ∧
    State.reset.bt2 .s1 = none ∧ driverReset.agent = .driver := by decide

theorem witness_SlotsAreIndependent :
    usesSlot (.bt2Set .s0 vFd) .s0 ∧ (∃ t, exec (.bt2Set .s0 vFd) fullState = .next t) ∧
    (∃ u, exec (.bt2Set .s0 vFd) { fullState with bt2s1 := none } = .next u) ∧
    usesSlot (.bt2Rdsjw .s1) .s1 ∧ (∃ t, exec (.bt2Rdsjw .s1) fullState = .next t) ∧
    ∃ u, exec (.bt2Rdsjw .s1) { fullState with bt2s0 := none } = .next u :=
  ⟨.inr rfl, ⟨_, rfl⟩, ⟨_, rfl⟩, .inl rfl, ⟨_, rfl⟩, _, rfl⟩

theorem witness_PresetReadBackRebuildsTheValue :
    State.reset.agent = .caller ∧ indexOk (.bt2Pcia .s0 7) = true ∧ indexOk (.bt2Pifi .s1 6) = true ∧
    indexOk (.bt2Pfd .s0 0) = true ∧ (∃ t, exec (.bt2Pcia .s0 7) State.reset = .next t) ∧
    (∃ t, exec (.bt2Pifi .s1 6) State.reset = .next t) ∧ ∃ t, exec (.bt2Pfd .s0 0) State.reset = .next t :=
  ⟨rfl, rfl, rfl, rfl, ⟨_, rfl⟩, ⟨_, rfl⟩, _, rfl⟩

theorem witness_FdpPciaIsTwoSlotLoads : fullState.agent = .caller ∧ 7 < 8 := by decide

theorem witness_SnapshotReadsGiveTheFields :
    fullState.agent = .caller ∧ fullState.cst = some ⟨0x2D, 100, 0x09, 0x01, 0x1C⟩ ∧
    fullState.cst2 = some ⟨0x02, 0x03, 100, 0x10, v500, vFd⟩ ∧ fullState.lst = some ⟨0x01, 12, 0x10, 19200⟩ ∧
    State.reset.agent = .caller ∧ State.reset.cst = none ∧ State.reset.cst2 = none ∧ State.reset.lst = none ∧
    fullDriver.agent = .driver := by decide

theorem witness_GetBtCopiesTheBitRates :
    (withCst 0x2D 37 0x09).agent = .caller ∧ (withCst 0x2D 37 0x09).cst = some ⟨0x2D, 37, 0x09, 0x01, 0x1C⟩ ∧
    (withCst2 2 3 80 16).agent = .caller ∧ (withCst2 2 3 80 16).cst2 = some ⟨2, 3, 80, 16, v500, vFd⟩ ∧
    State.reset.agent = .caller ∧ State.reset.cst = none ∧ State.reset.cst2 = none ∧ driverReset.agent = .driver := by decide

theorem witness_CstDecodeWordClosedForm :
    (withCst 0xFF 0 0xFF).agent = .caller ∧ (withCst 0xFF 0 0xFF).cst = some ⟨0xFF, 0, 0xFF, 0x01, 0x1C⟩ ∧
    State.reset.agent = .caller ∧ State.reset.cst = none ∧ driverReset.agent = .driver := by decide

theorem witness_CstTwoDecodeWordClosedForm :
    (withCst2 2 3 80 16).agent = .caller ∧ (withCst2 2 3 80 16).cst2 = some ⟨2, 3, 80, 16, v500, vFd⟩ ∧
    State.reset.agent = .caller ∧ State.reset.cst2 = none ∧ driverReset.agent = .driver := by decide

theorem witness_LstDecodeWordClosedForm :
    (withLst 0xFD 0 0 0).agent = .caller ∧ (withLst 0xFD 0 0 0).lst = some ⟨0xFD, 0, 0, 0⟩ ∧
    State.reset.agent = .caller ∧ State.reset.lst = none ∧ driverReset.agent = .driver := by decide

theorem witness_OpenTablesMeetTheirConstraints :
    presetIfi1000k ∈ presetIfi ∧ presetCanfd1000k ∈ presetCanfd :=
  ⟨.head _, .tail _ (List.mem_append_left _ (List.mem_append_right _ (.head _)))⟩

theorem witness_PairTablesMeetTheirConstraints :
    (⟨shortStd, shortFirst.1⟩ : FdPair) ∈ pairShort ∧ (⟨longStd, longFirst⟩ : FdPair) ∈ pairLong ∧
    longFirst ∈ [longStd, longFirst] := ⟨.head _, .head _, .tail _ (.head _)⟩

theorem witness_EveryPresentedRequestIsTaken :
    (bothWait 1).rst = false ∧ (bothWait 1).port .driver = [0x0925002D1C010040] ∧ (bothWait 1).port .caller = [0x50] := by
  decide

theorem witness_SettledPresetEntries : (⟨cia2Entry 10000 14, cia2Entry 10000 14⟩ : FdPair) ∈ pairCia := .head _

end Sys2Proof.Tests
end

/-! SUPPORT. What is known of the OPEN tables of rules R55 and R56 whatever their free constants are, in the order of the
definitions of Machine/Tables.lean, and the statement about them. -/

namespace Sys2Proof.Machine

/-! ### The mode bit and the orders -/

theorem isRaw_eq_getLsbD (v : BT2Val) : isRaw v = v.mode.getLsbD 0 := by
  have hbit : v.mode &&& 0x01 = BitVec.setWidth 8 (BitVec.ofBool (v.mode.getLsbD 0)) :=
    BitVec.and_one_eq_setWidth_ofBool_getLsbD
  rw [isRaw, hbit]
  cases v.mode.getLsbD 0 <;> rfl

theorem ascending_iff_isChain (rs : List Nat) : ascending rs = true ↔ rs.IsChain (· ≤ ·) := by
  induction rs using ascending.induct with
  | case1 => simp [ascending]
  | case2 r => simp [ascending]
  | case3 r r' rs ih => simp [ascending, ih]

theorem ascending_iff_pairwise (rs : List Nat) : ascending rs = true ↔ rs.Pairwise (· ≤ ·) :=
  (ascending_iff_isChain rs).trans List.isChain_iff_pairwise

/-- Two ascending lists that share the rate where they meet make one. -/
theorem ascending_append_overlap {rs rs' : List Nat} {r : Nat} (hbelow : ascending (rs ++ [r]) = true)
    (habove : ascending (r :: rs') = true) : ascending (rs ++ r :: rs') = true := by
  rw [ascending_iff_isChain] at *
  simpa using hbelow.append_overlap (l₃ := rs') habove (List.cons_ne_nil r [])

/-! ### The IFI table (rule R55) -/

theorem asRaw_mode_bit (v : BT2Val) : (asRaw v).mode.getLsbD 0 = true := by
  simp [asRaw]

theorem presetIfi_mode_bit : ∀ v ∈ presetIfi, v.mode.getLsbD 0 = true := by
  have hfirst : presetIfi1000k.mode.getLsbD 0 = true := rfl
  simp [presetIfi, hfirst, asRaw_mode_bit]

/-- The rates of the open IFI entries: five of them, ascending in their place. -/
theorem ifiRates_eq :
    ∃ rs : List Nat, ifiRates = 1000000 :: (rs ++ [10000000]) ∧ rs.length = 5 ∧
      ascending (1000000 :: (rs ++ [10000000])) = true := by
  have hlegal := legalOr_legal
    (legal := fun rs : List Nat => rs.length == 5 && ascending (1000000 :: rs ++ [10000000]))
    (raw := Config.ifiRatesOpen) (witness := List.replicate 5 1000000) (by decide)
  obtain ⟨hlength, hascending⟩ := (Bool.and_eq_true _ _).mp hlegal
  exact ⟨_, rfl, beq_iff_eq.mp hlength, hascending⟩

theorem ifiRates_length : ifiRates.length = presetIfi.length := by
  obtain ⟨rs, heq, hlength, -⟩ := ifiRates_eq
  simp [heq, hlength, presetIfi]

theorem ifiRates_head : ifiRates.head? = some 1000000 := rfl

theorem ifiRates_getLast : ifiRates.getLast? = some 10000000 := by
  obtain ⟨rs, heq, -, -⟩ := ifiRates_eq
  rw [heq, ← List.cons_append, List.getLast?_concat]

theorem ifiRates_pairwise : ifiRates.Pairwise (· ≤ ·) := by
  obtain ⟨rs, heq, -, hascending⟩ := ifiRates_eq
  rw [heq]
  exact (ascending_iff_pairwise _).mp hascending

/-! ### The entries of the CAN-FD table (rule R56) -/

theorem legalCanfdEntry_iff (v : BT2Val) :
    legalCanfdEntry v = true ↔
      v.mode.getLsbD 0 = false ∧
        ∃ f ∈ [80, 81, 75, 67, 50], v.tdo.toNat = (v.ts1.toNat + v.ts2.toNat) * f / 100 := by
  simp only [legalCanfdEntry, isRaw_eq_getLsbD, tdoIsFraction, Bool.and_eq_true, Bool.not_eq_true', List.any_eq_true,
    beq_iff_eq]

theorem legalCanfdEntry_neutralCanfd (bps : Word) : legalCanfdEntry (neutralCanfd bps) = true :=
  (legalCanfdEntry_iff _).mpr ⟨by simp [neutralCanfd], 80, .head _, by simp [neutralCanfd]⟩

/-- The source's own entry meets rule R56: 1600 is 80 hundredths of 1600 + 400. -/
theorem legalCanfdEntry_presetCanfd1000k : legalCanfdEntry presetCanfd1000k = true :=
  (legalCanfdEntry_iff _).mpr ⟨rfl, 80, .head _, rfl⟩

theorem legalCanfdEntry_canfdEntryAt (bps : Word) (raw : BT2Val) : legalCanfdEntry (canfdEntryAt bps raw) = true :=
  legalOr_legal (legalCanfdEntry_neutralCanfd bps)

@[simp] theorem canfdEntryAt_presc (bps : Word) (raw : BT2Val) : (canfdEntryAt bps raw).presc = bps := by
  unfold canfdEntryAt legalOr
  split <;> rfl

theorem legalCanfdMiddle_iff (below above : List BT2Val) :
    legalCanfdMiddle (below, above) = true ↔
      (∀ v ∈ below, legalCanfdEntry v = true) ∧ (∀ v ∈ above, legalCanfdEntry v = true) ∧
      ascending (250000 :: below.map (·.presc.toNat) ++ [1000000]) = true ∧
      ascending (1000000 :: above.map (·.presc.toNat) ++ [10000000]) = true ∧
      below.length + above.length + 3 ≤ 16 := by
  simp only [legalCanfdMiddle, Bool.and_eq_true, List.all_eq_true, decide_eq_true_eq, and_assoc]

theorem legalCanfdMiddle_canfdMiddle : legalCanfdMiddle canfdMiddle = true :=
  legalOr_legal (by decide)

/-! ### The CAN-FD table (rules R4 and R56) -/

theorem nCanfd_eq : nCanfd = canfdMiddle.1.length + canfdMiddle.2.length + 3 := by
  simp [nCanfd, presetCanfd]
  omega

theorem nCanfd_le : nCanfd ≤ 16 := by
  obtain ⟨-, -, -, -, hlength⟩ := (legalCanfdMiddle_iff _ _).mp legalCanfdMiddle_canfdMiddle
  rwa [nCanfd_eq]

theorem idxCanfd1000k_lt : idxCanfd1000k < nCanfd := by
  rw [nCanfd_eq, idxCanfd1000k]
  omega

theorem presetCanfd_idxCanfd1000k : presetCanfd[idxCanfd1000k]? = some presetCanfd1000k := by
  simp [presetCanfd, idxCanfd1000k]

theorem presetCanfd_head_presc : presetCanfd.head?.map (·.presc) = some 250000 := by
  simp [presetCanfd]

theorem presetCanfd_getLast_presc : presetCanfd.getLast?.map (·.presc) = some 10000000 := by
  rw [presetCanfd, ← List.cons_append, List.getLast?_concat, Option.map_some, canfdEntryAt_presc]

theorem mem_presetCanfd_iff (v : BT2Val) :
    v ∈ presetCanfd ↔
      v = canfdEntryAt 250000 Config.canfdFirstOpen ∨ v ∈ canfdMiddle.1 ∨ v = presetCanfd1000k ∨
      v ∈ canfdMiddle.2 ∨ v = canfdEntryAt 10000000 Config.canfdLastOpen := by
  simp [presetCanfd]

theorem presetCanfd_legal (v : BT2Val) (hv : v ∈ presetCanfd) : legalCanfdEntry v = true := by
  obtain ⟨hbelow, habove, -, -, -⟩ := (legalCanfdMiddle_iff _ _).mp legalCanfdMiddle_canfdMiddle
  obtain rfl | hv | rfl | hv | rfl := (mem_presetCanfd_iff v).mp hv
  · exact legalCanfdEntry_canfdEntryAt _ _
  · exact hbelow v hv
  · exact legalCanfdEntry_presetCanfd1000k
  · exact habove v hv
  · exact legalCanfdEntry_canfdEntryAt _ _

/-- The rates of the whole table: the open rates stand between the three the spec states. -/
theorem presetCanfd_rates :
    presetCanfd.map (·.presc.toNat) =
      (250000 :: canfdMiddle.1.map (·.presc.toNat)) ++
        1000000 :: (canfdMiddle.2.map (·.presc.toNat) ++ [10000000]) := by
  simp [presetCanfd, presetCanfd1000k]

theorem presetCanfd_pairwise : presetCanfd.Pairwise (fun v v' => v.presc.toNat ≤ v'.presc.toNat) := by
  obtain ⟨-, -, hbelow, habove, -⟩ := (legalCanfdMiddle_iff _ _).mp legalCanfdMiddle_canfdMiddle
  have hrates : (presetCanfd.map (·.presc.toNat)).Pairwise (· ≤ ·) := by
    rw [presetCanfd_rates, ← ascending_iff_pairwise]
    exact ascending_append_overlap hbelow habove
  exact List.pairwise_map.mp hrates

/-- Settles O58: every open part is chosen under the constraint it has to meet, so each clause is read off the choice; the
CAN-FD rates do not fall because the two open stretches meet at the source's 1000 kbit/s entry. -/
theorem openTablesMeetTheirConstraints : Obligations.OpenTablesMeetTheirConstraints :=
  have hpos : 1 ≤ nCanfd := Nat.one_le_of_lt idxCanfd1000k_lt
  have hentries := fun v hv => (legalCanfdEntry_iff v).mp (presetCanfd_legal v hv)
  ⟨presetIfi_mode_bit, ifiRates_length, ifiRates_head, ifiRates_getLast, ifiRates_pairwise, hpos, nCanfd_le,
    idxCanfd1000k_lt, presetCanfd_idxCanfd1000k, presetCanfd_head_presc, presetCanfd_getLast_presc, hentries,
    presetCanfd_pairwise⟩

end Sys2Proof.Machine

/-! SUPPORT. What an operation does, said once for all 48 (rules R39 to R41, R62, R221 and R226): it raises the fault of
the first check that fails, or it has its effect and is answered without one. The statements about the state of rule R20
are read off the eight effects there are. -/

namespace Sys2Proof.Machine

/-! ### The holding registers under each write (rules R22, R24, R38 and R62) -/

@[simp] theorem FaultCode.code_ne_zero (c : FaultCode) : c.code ≠ 0 := by cases c <;> decide

@[simp] theorem Reg.same_refl (s : State) (r : Reg) : Reg.Same s s r := by cases r <;> rfl

@[simp] theorem Reg.same_respond (s t : State) (f : BitVec 3) (r : Reg) :
    Reg.Same s (t.respond f) r ↔ Reg.Same s t r := by cases r <;> rfl

@[simp] theorem Reg.same_recordFault (s t : State) (c : FaultCode) (r : Reg) :
    Reg.Same s (t.recordFault c) r ↔ Reg.Same s t r := by cases r <;> rfl

@[simp] theorem Reg.same_setRes (s : State) (v : Word) (r : Reg) : Reg.Same s (s.setRes v) r := by cases r <;> rfl

theorem Reg.same_setBt (s : State) (b : BTVal) {r : Reg} (h : r ≠ .bt) : Reg.Same s (s.setBt b) r := by
  cases r with
  | bt => exact absurd rfl h
  | bt2 | cst | cst2 | lst => rfl

theorem Reg.same_setBt2 (s : State) (k : Slot) (v : BT2Val) {r : Reg} (h : r ≠ .bt2 k) :
    Reg.Same s (s.setBt2 k v) r := by
  cases r with
  | bt2 k' => exact s.bt2_setBt2_other k k' v fun hk => h (congrArg Reg.bt2 hk)
  | bt | cst | cst2 | lst => simp [Reg.Same]

theorem Reg.same_setFdp (s : State) (p : FdPair) {r : Reg} (h : r ∉ bothSlots) : Reg.Same s (s.setFdp p) r := by
  cases r with
  | bt2 k => cases k <;> simp [bothSlots] at h
  | bt | cst | cst2 | lst => rfl

theorem Reg.same_setCst (s : State) (x : CanSnapshot) {r : Reg} (h : r ≠ .cst) : Reg.Same s (s.setCst x) r := by
  cases r with
  | cst => exact absurd rfl h
  | bt | bt2 | cst2 | lst => rfl

theorem Reg.same_setCst2 (s : State) (x : CanSnapshot2) {r : Reg} (h : r ≠ .cst2) : Reg.Same s (s.setCst2 x) r := by
  cases r with
  | cst2 => exact absurd rfl h
  | bt | bt2 | cst | lst => rfl

theorem Reg.same_setLst (s : State) (x : LinSnapshot) {r : Reg} (h : r ≠ .lst) : Reg.Same s (s.setLst x) r := by
  cases r with
  | lst => exact absurd rfl h
  | bt | bt2 | cst | cst2 => rfl

@[simp] theorem State.valid_respond (s : State) (f : BitVec 3) (r : Reg) : (s.respond f).valid r = s.valid r := by
  cases r <;> rfl

/-- A pair write leaves both slots valid (rule R62). -/
theorem State.valid_setFdp (s : State) (p : FdPair) {r : Reg} (h : r ∈ bothSlots) : (s.setFdp p).valid r = true := by
  obtain rfl | rfl : r = .bt2 .s0 ∨ r = .bt2 .s1 := by simpa [bothSlots] using h
  · rfl
  · rfl

/-! ### The order of the checks (rule R226) -/

theorem faultOf_of_not_mayIssue {i : Instr} {s : State} (h : mayIssue s.agent i = false) : faultOf i s = 2 := by
  simp [faultOf, h]

theorem faultOf_of_not_indexOk {i : Instr} {s : State} (ha : mayIssue s.agent i = true) (h : indexOk i = false) :
    faultOf i s = 3 := by
  simp [faultOf, ha, h]

theorem faultOf_of_not_readsValid {i : Instr} {s : State} (ha : mayIssue s.agent i = true) (hx : indexOk i = true)
    (h : readsValid s i = false) : faultOf i s = 4 := by
  simp [faultOf, ha, hx, h]

/-- No check fails exactly where the agent may ask, the index is in its table and the register read is valid. -/
theorem faultOf_eq_zero_iff (i : Instr) (s : State) :
    faultOf i s = 0 ↔ mayIssue s.agent i = true ∧ indexOk i = true ∧ readsValid s i = true := by
  cases ha : mayIssue s.agent i with
  | false => simp [faultOf_of_not_mayIssue ha]
  | true =>
    cases hx : indexOk i with
    | false => simp [faultOf_of_not_indexOk ha hx]
    | true =>
      cases hv : readsValid s i with
      | false => simp [faultOf_of_not_readsValid ha hx hv]
      | true => simp [faultOf, ha, hx, hv]

/-! ### What an operation does -/

/-- What an operation whose checks pass makes of the state before it is answered, beside what its row of `infoOf` says: a
result in `RES`, a write of `BT`, of one slot or of both, a snapshot load with its operands, or nothing. -/
inductive Effect (i : Instr) (s : State) : State → Prop
  | nothing (hi : i = .nop) : Effect i s s
  | result (v : Word) (hread : (infoOf i).readType = true) (hwrites : (infoOf i).writes = []) : Effect i s (s.setRes v)
  | bt (b : BTVal) (hwrites : (infoOf i).writes = [.bt]) : Effect i s (s.setBt b)
  | slot (k : Slot) (v : BT2Val) (hwrites : (infoOf i).writes = [.bt2 k]) : Effect i s (s.setBt2 k v)
  | pair (p : FdPair) (hwrites : (infoOf i).writes = bothSlots) : Effect i s (s.setFdp p)
  | cst (o l c b0 b1 : Byte) (hi : i = .cstLd o l c b0 b1) : Effect i s (s.setCst ⟨o, l, c, b0, b1⟩)
  | cst2 (o e l c : Byte) (a b : BT2Val) (hi : i = .cst2Ld o e l c a b) : Effect i s (s.setCst2 ⟨o, e, l, c, a, b⟩)
  | lst (o l c : Byte) (r : Word) (hi : i = .lstLd o l c r) : Effect i s (s.setLst ⟨o, l, c, r⟩)

/-- The operation raises the fault of its first failing check, or has its effect and is answered without a fault. -/
def Answers (i : Instr) (s : State) : Prop :=
  (∃ c, faultOf i s = FaultCode.code c ∧ exec i s = raise c s) ∨
  (faultOf i s = 0 ∧ ∃ u, Effect i s u ∧ exec i s = .next (u.respond 0))

section Families

variable {i : Instr} {s : State}

theorem answers_of_callerWrite {u : State} {writes : List Reg} (hexec : exec i s = callerWrite s u)
    (hinfo : infoOf i = infoWrite writes) (hu : Effect i s u) : Answers i s := by
  obtain ⟨ha, h⟩ | ⟨ha, h⟩ := callerWrite_cases s u
  · refine .inr ⟨(faultOf_eq_zero_iff i s).mpr ?_, u, hu, hexec.trans h⟩
    simp [mayIssue, indexOk, readsValid, hinfo, infoWrite, ha]
  · refine .inl ⟨.priv, faultOf_of_not_mayIssue ?_, hexec.trans h⟩
    simp [mayIssue, hinfo, infoWrite, ha]

theorem answers_of_driverWrite {u : State} {r : Reg} (hexec : exec i s = driverWrite s u)
    (hinfo : infoOf i = infoLoad r) (hu : Effect i s u) : Answers i s := by
  obtain ⟨ha, h⟩ | ⟨ha, h⟩ := driverWrite_cases s u
  · refine .inr ⟨(faultOf_eq_zero_iff i s).mpr ?_, u, hu, hexec.trans h⟩
    simp [mayIssue, indexOk, readsValid, hinfo, infoLoad, ha]
  · refine .inl ⟨.priv, faultOf_of_not_mayIssue ?_, hexec.trans h⟩
    simp [mayIssue, hinfo, infoLoad, ha]

theorem answers_of_callerPreset {α : Type} {table : List α} {idx : Nat} {write : α → State} {writes : List Reg}
    (hexec : exec i s = callerPreset table idx s write) (hinfo : infoOf i = infoPreset writes idx table.length)
    (hwrite : ∀ v, Effect i s (write v)) : Answers i s := by
  obtain ⟨ha, h⟩ | ⟨ha, hidx, h⟩ | ⟨v, ha, hv, h⟩ := callerPreset_cases table idx s write
  · refine .inl ⟨.priv, faultOf_of_not_mayIssue ?_, hexec.trans h⟩
    simp [mayIssue, hinfo, infoPreset, ha]
  · refine .inl ⟨.badidx, faultOf_of_not_indexOk ?_ ?_, hexec.trans h⟩
    · simp [mayIssue, hinfo, infoPreset, ha]
    · simpa [indexOk, hinfo, infoPreset] using hidx
  · obtain ⟨hidx, -⟩ := List.getElem?_eq_some_iff.mp hv
    refine .inr ⟨(faultOf_eq_zero_iff i s).mpr ?_, write v, hwrite v, hexec.trans h⟩
    simp [mayIssue, indexOk, readsValid, hinfo, infoPreset, ha, hidx]

theorem answers_of_callerUse {α : Type} {reg : Option α} {write : α → State} {r : Reg} {readType : Bool}
    {writes : List Reg} (hexec : exec i s = callerUse reg s write)
    (hinfo : infoOf i = ⟨some .caller, readType, some r, writes, none⟩) (hreg : s.valid r = reg.isSome)
    (hwrite : ∀ v, Effect i s (write v)) : Answers i s := by
  obtain ⟨ha, h⟩ | ⟨ha, hnone, h⟩ | ⟨v, ha, hv, h⟩ := callerUse_cases reg s write
  · refine .inl ⟨.priv, faultOf_of_not_mayIssue ?_, hexec.trans h⟩
    simp [mayIssue, hinfo, ha]
  · refine .inl ⟨.noval, faultOf_of_not_readsValid ?_ ?_ ?_, hexec.trans h⟩
    · simp [mayIssue, hinfo, ha]
    · simp [indexOk, hinfo]
    · simp [readsValid, hinfo, hreg, hnone]
  · refine .inr ⟨(faultOf_eq_zero_iff i s).mpr ?_, write v, hwrite v, hexec.trans h⟩
    simp [mayIssue, indexOk, readsValid, hinfo, ha, hreg, hv]

theorem answers_of_callerRead {α : Type} {reg : Option α} {f : α → Word} {r : Reg}
    (hexec : exec i s = callerRead reg s f) (hinfo : infoOf i = infoRead r) (hreg : s.valid r = reg.isSome) :
    Answers i s :=
  answers_of_callerUse hexec hinfo hreg fun v => .result (f v) (by rw [hinfo]; rfl) (by rw [hinfo]; rfl)

end Families

/-- Every operation does what its family of operations does (rule R76). -/
theorem exec_answers (i : Instr) (s : State) : Answers i s := by
  cases i with
  | nop => exact .inr ⟨(faultOf_eq_zero_iff _ _).mpr ⟨rfl, rfl, rfl⟩, s, .nothing rfl, rfl⟩
  | btSet => exact answers_of_callerWrite rfl rfl (.bt _ rfl)
  | bt2Set => exact answers_of_callerWrite rfl rfl (.slot _ _ rfl)
  | fdpSet | fdpSingle => exact answers_of_callerWrite rfl rfl (.pair _ rfl)
  | btPreset | btPcia => exact answers_of_callerPreset rfl rfl fun _ => .bt _ rfl
  | bt2Pcia | bt2Pifi | bt2Pfd => exact answers_of_callerPreset rfl rfl fun _ => .slot _ _ rfl
  | fdpPcia | fdpPshort | fdpPlong => exact answers_of_callerPreset rfl rfl fun _ => .pair _ rfl
  | cstLd => exact answers_of_driverWrite rfl rfl (.cst _ _ _ _ _ rfl)
  | cst2Ld => exact answers_of_driverWrite rfl rfl (.cst2 _ _ _ _ _ _ rfl)
  | lstLd => exact answers_of_driverWrite rfl rfl (.lst _ _ _ _ rfl)
  | cstGetbt => exact answers_of_callerUse rfl rfl rfl fun _ => .bt _ rfl
  | cst2Getbt => exact answers_of_callerUse rfl rfl rfl fun _ => .pair _ rfl
  | btRd0 | btRd1 | btU16 | btBrp | btTs1 | btTs2 | btTicks | btEq
  | bt2Rdmode | bt2Rdpresc | bt2Rdts1 | bt2Rdts2 | bt2Rdsjw | bt2Rdtdo | bt2Ticks | bt2Eq
  | cstDec | cstRdop | cstRdload | cstRdstat
  | cst2Dec | cst2Rdop | cst2Rdex | cst2Rdload | cst2Rdstat
  | lstDec | lstRdop | lstRdload | lstRdstat | lstRdrate => exact answers_of_callerRead rfl rfl rfl

/-- Everything that can stand after an operation: the fault of its first failing check, or its effect. -/
theorem exec_next_cases {i : Instr} {s t : State} (h : exec i s = .next t) :
    (∃ c, faultOf i s = FaultCode.code c ∧ t = (s.recordFault c).respond c.code) ∨
    (faultOf i s = 0 ∧ ∃ u, Effect i s u ∧ t = u.respond 0) := by
  obtain ⟨c, hf, hc⟩ | ⟨hf, u, hu, hn⟩ := exec_answers i s
  · rw [hc, raise_eq] at h
    cases h
    exact .inl ⟨c, hf, rfl⟩
  · rw [hn] at h
    cases h
    exact .inr ⟨hf, u, hu, rfl⟩

/-! ### What the effects leave unchanged -/

section Frame

variable {i : Instr} {s u : State}

theorem Effect.err_eq (h : Effect i s u) : u.err = s.err := by
  cases h <;> simp

theorem Effect.rst_eq (h : Effect i s u) : u.rst = s.rst := by
  cases h <;> simp

theorem Effect.res_eq (h : Effect i s u) (hread : (infoOf i).readType = false) : u.res = s.res := by
  cases h with
  | result v hread' => simp [hread'] at hread
  | nothing | bt | slot | pair | cst | cst2 | lst => simp

theorem Effect.reg_same (h : Effect i s u) {r : Reg} (hr : r ∉ (infoOf i).writes) : Reg.Same s u r := by
  cases h with
  | nothing => exact Reg.same_refl s r
  | result => exact Reg.same_setRes s _ r
  | bt b hwrites => exact Reg.same_setBt s b (by simpa [hwrites] using hr)
  | slot k v hwrites => exact Reg.same_setBt2 s k v (by simpa [hwrites] using hr)
  | pair p hwrites => exact Reg.same_setFdp s p (by simpa [hwrites] using hr)
  | cst _ _ _ _ _ hi => exact Reg.same_setCst s _ (by simpa [hi, infoOf, infoLoad] using hr)
  | cst2 _ _ _ _ _ _ hi => exact Reg.same_setCst2 s _ (by simpa [hi, infoOf, infoLoad] using hr)
  | lst _ _ _ _ hi => exact Reg.same_setLst s _ (by simpa [hi, infoOf, infoLoad] using hr)

theorem Effect.valid_of_mem_writes (h : Effect i s u) {r : Reg} (hr : r ∈ (infoOf i).writes) : u.valid r = true := by
  cases h with
  | nothing hi => simp [hi, infoOf] at hr
  | result _ _ hwrites => simp [hwrites] at hr
  | bt b hwrites =>
    obtain rfl : r = .bt := by simpa [hwrites] using hr
    rfl
  | slot k v hwrites =>
    obtain rfl : r = .bt2 k := by simpa [hwrites] using hr
    simp [State.valid]
  | pair p hwrites => exact s.valid_setFdp p (hwrites ▸ hr)
  | cst _ _ _ _ _ hi =>
    obtain rfl : r = .cst := by simpa [hi, infoOf, infoLoad] using hr
    rfl
  | cst2 _ _ _ _ _ _ hi =>
    obtain rfl : r = .cst2 := by simpa [hi, infoOf, infoLoad] using hr
    rfl
  | lst _ _ _ _ hi =>
    obtain rfl : r = .lst := by simpa [hi, infoOf, infoLoad] using hr
    rfl

/-- A snapshot changes only by its own load, to the operands of that load. -/
theorem Effect.snapshot_cases (h : Effect i s u) :
    (u.cst = s.cst ∨ ∃ o l c b0 b1, i = .cstLd o l c b0 b1 ∧ u.cst = some ⟨o, l, c, b0, b1⟩) ∧
    (u.cst2 = s.cst2 ∨ ∃ o e l c a b, i = .cst2Ld o e l c a b ∧ u.cst2 = some ⟨o, e, l, c, a, b⟩) ∧
    (u.lst = s.lst ∨ ∃ o l c r, i = .lstLd o l c r ∧ u.lst = some ⟨o, l, c, r⟩) := by
  cases h with
  | cst o l c b0 b1 hi => exact ⟨.inr ⟨o, l, c, b0, b1, hi, rfl⟩, .inl rfl, .inl rfl⟩
  | cst2 o e l c a b hi => exact ⟨.inl rfl, .inr ⟨o, e, l, c, a, b, hi, rfl⟩, .inl rfl⟩
  | lst o l c r hi => exact ⟨.inl rfl, .inl rfl, .inr ⟨o, l, c, r, hi, rfl⟩⟩
  | slot k => exact ⟨.inl (s.setBt2_cst k _), .inl (s.setBt2_cst2 k _), .inl (s.setBt2_lst k _)⟩
  | nothing | result | bt | pair => exact ⟨.inl rfl, .inl rfl, .inl rfl⟩

end Frame

/-- An operation whose checks pass was asked by the agent its row names (rule R231). -/
theorem agent_eq_of_faultOf_eq_zero {i : Instr} {s : State} {a : Agent} (hf : faultOf i s = 0)
    (ha : (infoOf i).agent = some a) : s.agent = a := by
  obtain ⟨hissue, -, -⟩ := (faultOf_eq_zero_iff i s).mp hf
  rw [mayIssue, ha] at hissue
  exact (beq_iff_eq.mp hissue).symm

/-! ### The statements about one operation -/

/-- Settles O23: a fault leaves the snapshots alone, and of the effects only the three loads touch one; that their checks
pass says who asked. -/
theorem onlyDriverLoadsChangeSnapshots : Obligations.OnlyDriverLoadsChangeSnapshots := by
  intro i s t h
  obtain ⟨c, -, rfl⟩ | ⟨hf, u, hu, rfl⟩ := exec_next_cases h
  · exact ⟨.inl rfl, .inl rfl, .inl rfl⟩
  · obtain ⟨hcst, hcst2, hlst⟩ := hu.snapshot_cases
    refine ⟨hcst.imp_right ?_, hcst2.imp_right ?_, hlst.imp_right ?_⟩
    · rintro ⟨o, l, c, b0, b1, rfl, hset⟩
      exact ⟨agent_eq_of_faultOf_eq_zero hf rfl, o, l, c, b0, b1, rfl, hset⟩
    · rintro ⟨o, e, l, c, a, b, rfl, hset⟩
      exact ⟨agent_eq_of_faultOf_eq_zero hf rfl, o, e, l, c, a, b, rfl, hset⟩
    · rintro ⟨o, l, c, r, rfl, hset⟩
      exact ⟨agent_eq_of_faultOf_eq_zero hf rfl, o, l, c, r, rfl, hset⟩

/-- Settles O31: neither a fault nor an effect other than a result touches `RES`. -/
theorem onlyReadsWriteRes : Obligations.OnlyReadsWriteRes := by
  intro i s t hread h
  obtain ⟨c, -, rfl⟩ | ⟨-, u, hu, rfl⟩ := exec_next_cases h
  · simp
  · simpa using hu.res_eq hread

/-- Settles O32: a fault changes no holding register, and each effect writes exactly the registers of its row. -/
theorem holdingRegistersHaveTheirWriters : Obligations.HoldingRegistersHaveTheirWriters := by
  intro i s t h
  obtain ⟨c, hf, rfl⟩ | ⟨-, u, hu, rfl⟩ := exec_next_cases h
  · exact ⟨fun r _ => by simp, fun hzero => absurd (hf.symm.trans hzero) c.code_ne_zero⟩
  · exact ⟨fun r hr => by simpa using hu.reg_same hr, fun _ r hr => by simpa using hu.valid_of_mem_writes hr⟩

/-! ### One step -/

theorem runWord_of_decode {w : ReqWord} {i : Instr} (h : decode w = .ok i) (s : State) : runWord w s = exec i s := by
  rw [runWord, h]

theorem runWord_of_decode_error {w : ReqWord} {e : DecodeReject} (h : decode w = .error e) (s : State) :
    runWord w s = raise .illop s := by
  rw [runWord, h, illegalRequest]

theorem State.take_of_other_port_empty {s : State} {a : Agent} {w : ReqWord} {ws : List ReqWord}
    (hrst : s.rst = false) (hport : s.port a = w :: ws) (hother : s.port (otherAgent a) = []) :
    s.take = .request w (s.taking a ws) := by
  cases a with
  | caller =>
    have hcaller : s.callerPort = w :: ws := hport
    have hdriver : s.driverPort = [] := hother
    simp [State.take, State.taking, hrst, hcaller, hdriver]
  | driver =>
    have hdriver : s.driverPort = w :: ws := hport
    have hcaller : s.callerPort = [] := hother
    simp [State.take, State.taking, hrst, hcaller, hdriver]

/-- With the other port empty, the step takes the head of the one port and runs it. -/
theorem step_of_other_port_empty {s : State} {a : Agent} {w : ReqWord} {ws : List ReqWord} (hrst : s.rst = false)
    (hport : s.port a = w :: ws) (hother : s.port (otherAgent a) = []) : step s = runWord w (s.taking a ws) := by
  rw [step, s.take_of_other_port_empty hrst hport hother]
  rfl

/-- Settles O8: with one port empty there is no tie to decide, so both clauses are the same step, for either agent. -/
theorem stepRunsTheDecodedRequest : Obligations.StepRunsTheDecodedRequest := by
  intro s w ws i hrst hdecode
  refine ⟨fun hcaller hdriver => ?_, fun hcaller hdriver => ?_⟩
  · exact (step_of_other_port_empty (a := .caller) hrst hcaller hdriver).trans (runWord_of_decode hdecode _)
  · exact (step_of_other_port_empty (a := .driver) hrst hdriver hcaller).trans (runWord_of_decode hdecode _)

/-! ### Runs -/

/-- What every step without reset keeps, and so a run of them: the reset input, and `ERR` where it holds a fault. -/
def KeepsFirstFault (s t : State) : Prop := t.rst = s.rst ∧ (s.err ≠ 0 → t.err = s.err)

theorem keepsFirstFault_raise (c : FaultCode) (s : State) : KeepsFirstFault s ((s.recordFault c).respond c.code) :=
  ⟨rfl, fun herr => if_neg herr⟩

theorem exec_keepsFirstFault (i : Instr) (s : State) : ∃ t, exec i s = .next t ∧ KeepsFirstFault s t := by
  obtain ⟨c, -, h⟩ | ⟨-, u, hu, h⟩ := exec_answers i s
  · exact ⟨_, h, keepsFirstFault_raise c s⟩
  · exact ⟨_, h, hu.rst_eq, fun _ => hu.err_eq⟩

theorem runWord_keepsFirstFault (w : ReqWord) (s : State) : ∃ t, runWord w s = .next t ∧ KeepsFirstFault s t := by
  cases hw : decode w with
  | ok i =>
    rw [runWord_of_decode hw]
    exact exec_keepsFirstFault i s
  | error e =>
    rw [runWord_of_decode_error hw]
    exact ⟨_, raise_eq .illop s, keepsFirstFault_raise .illop s⟩

/-- Without reset a step waits or runs one word on a state with the same `ERR`. -/
theorem step_keepsFirstFault {s : State} (hrst : s.rst = false) : ∃ t, step s = .next t ∧ KeepsFirstFault s t := by
  obtain ⟨hrst', -⟩ | ⟨-, -, -, h⟩ | ⟨-, w, ws, count, lead, ⟨-, h⟩ | ⟨-, h⟩⟩ := step_cases s
  · simp [hrst] at hrst'
  · exact ⟨_, h, rfl, fun _ => rfl⟩
  · rw [h]
    exact runWord_keepsFirstFault w _
  · rw [h]
    exact runWord_keepsFirstFault w _

/-- Settles O25, by induction on the number of steps. -/
theorem errKeepsTheFirstFaultAlongRuns : Obligations.ErrKeepsTheFirstFaultAlongRuns := by
  intro n
  induction n with
  | zero =>
    intro s t _ _ h
    cases h
    rfl
  | succ n ih =>
    intro s t hrst herr h
    obtain ⟨u, hstep, hrst', herr'⟩ := step_keepsFirstFault hrst
    rw [core_run_succ hstep] at h
    calc
      t.err = u.err := ih u t (hrst'.trans hrst) (by rwa [herr' herr]) h
      _ = s.err := herr' herr

/-! ### The reset state and the outputs -/

/-- Settles O16: rule R46's values, as `State.reset` has them. -/
theorem resetStateOfTheRegisters : Obligations.ResetStateOfTheRegisters :=
  ⟨rfl, rfl, rfl, rfl, rfl, rfl, rfl, rfl⟩

/-- Settles O27: `ERR` is 0 and no response stands. -/
theorem resetMeetsInvariant : Obligations.ResetMeetsInvariant :=
  ⟨Nat.zero_le 4, nofun⟩

/-- Settles O29: both CAN snapshots are no value and no load waits. -/
theorem resetMeetsBusloadDuty : Obligations.ResetMeetsBusloadDuty :=
  ⟨nofun, nofun, nofun⟩

/-- The data outputs of a slot show a field where the slot is valid. -/
theorem State.fdpOut_s0 {α : Type} {s : State} {v : BT2Val} (h : s.bt2s0 = some v) (field : BT2Val → α) :
    (s.fdpOut field).1 = some (field v) := by
  simp [State.fdpOut, h]

theorem State.fdpOut_s1 {α : Type} {s : State} {v : BT2Val} (h : s.bt2s1 = some v) (field : BT2Val → α) :
    (s.fdpOut field).2 = some (field v) := by
  simp [State.fdpOut, h]

/-- Settles O33: each output is defined as its register, or as the field of a valid one. -/
theorem outputsShowTheRegisters : Obligations.OutputsShowTheRegisters := by
  intro s
  refine ⟨rfl, rfl, Option.isSome_iff_exists, fun b hb => ?_, Option.isSome_iff_exists, Option.isSome_iff_exists,
    fun v hv => ?_, fun v hv => ?_⟩
  · simp [State.outputs, hb]
  · exact ⟨s.fdpOut_s0 hv _, s.fdpOut_s0 hv _, s.fdpOut_s0 hv _, s.fdpOut_s0 hv _, s.fdpOut_s0 hv _, s.fdpOut_s0 hv _⟩
  · exact ⟨s.fdpOut_s1 hv _, s.fdpOut_s1 hv _, s.fdpOut_s1 hv _, s.fdpOut_s1 hv _, s.fdpOut_s1 hv _, s.fdpOut_s1 hv _⟩

end Sys2Proof.Machine

/-! SUPPORT. In which order the requests of the two agents run (rules R44, R66 and R67). What an operation does depends on
the registers and the agent alone, so a run of steps leaves the registers as the taken requests leave them, one after the
other; and a step takes the oldest request of one port and leaves the other port alone. -/

namespace Sys2Proof.Machine

/-! ### An operation depends on the registers and the agent alone -/

/-- The registers and the agent of `s` beside the ports, the reset input, the two fields that decide ties and the last
response of `env`. -/
def State.inEnvOf (s env : State) : State :=
  { s with
    callerPort := env.callerPort
    driverPort := env.driverPort
    rst := env.rst
    arbCount := env.arbCount
    lead := env.lead
    rsp := env.rsp }

/-- The same of an outcome that is a next state; its response is its own. -/
def resultInEnvOf (env : State) : Result → Result
  | .next t => .next { t.inEnvOf env with rsp := t.rsp }
  | .fault f => .fault f
  | .refused f => .refused f

section Env

variable (s env : State)

theorem State.bt2_inEnvOf (k : Slot) : (s.inEnvOf env).bt2 k = s.bt2 k := by cases k <;> rfl

theorem State.setBt2_inEnvOf (k : Slot) (v : BT2Val) : (s.inEnvOf env).setBt2 k v = (s.setBt2 k v).inEnvOf env := by
  cases k <;> rfl

theorem onlyFor_inEnvOf (a : Agent) (body : Result) :
    onlyFor a (s.inEnvOf env) (resultInEnvOf env body) = resultInEnvOf env (onlyFor a s body) := by
  by_cases h : s.agent = a
  · rw [onlyFor_same h, onlyFor_same (s := s.inEnvOf env) h]
  · rw [onlyFor_other h, onlyFor_other (s := s.inEnvOf env) h]
    rfl

variable {s env}

theorem callerWrite_inEnvOf {u u' : State} (hwrite : u' = u.inEnvOf env) :
    callerWrite (s.inEnvOf env) u' = resultInEnvOf env (callerWrite s u) := by
  subst hwrite
  exact onlyFor_inEnvOf s env .caller (finish u)

theorem driverWrite_inEnvOf {u u' : State} (hwrite : u' = u.inEnvOf env) :
    driverWrite (s.inEnvOf env) u' = resultInEnvOf env (driverWrite s u) := by
  subst hwrite
  exact onlyFor_inEnvOf s env .driver (finish u)

theorem callerPreset_inEnvOf {α : Type} {table : List α} {idx : Nat} {write write' : α → State}
    (hwrite : ∀ v, write' v = (write v).inEnvOf env) :
    callerPreset table idx (s.inEnvOf env) write' = resultInEnvOf env (callerPreset table idx s write) := by
  unfold callerPreset
  cases romRead table idx with
  | none => exact onlyFor_inEnvOf s env .caller (raise .badidx s)
  | some v => exact callerWrite_inEnvOf (hwrite v)

theorem callerUse_inEnvOf {α : Type} {reg reg' : Option α} {write write' : α → State} (hreg : reg' = reg)
    (hwrite : ∀ v, write' v = (write v).inEnvOf env) :
    callerUse reg' (s.inEnvOf env) write' = resultInEnvOf env (callerUse reg s write) := by
  subst hreg
  cases reg' with
  | none => exact onlyFor_inEnvOf s env .caller (raise .noval s)
  | some v => exact callerWrite_inEnvOf (hwrite v)

theorem callerRead_inEnvOf {α : Type} {reg reg' : Option α} {f : α → Word} (hreg : reg' = reg) :
    callerRead reg' (s.inEnvOf env) f = resultInEnvOf env (callerRead reg s f) :=
  callerUse_inEnvOf hreg fun _ => rfl

end Env

theorem exec_inEnvOf (i : Instr) (s env : State) : exec i (s.inEnvOf env) = resultInEnvOf env (exec i s) := by
  cases i with
  | nop => rfl
  | btSet | fdpSet | fdpSingle => exact callerWrite_inEnvOf rfl
  | bt2Set k v => exact callerWrite_inEnvOf (s.setBt2_inEnvOf env k v)
  | btPreset | btPcia | fdpPcia | fdpPshort | fdpPlong => exact callerPreset_inEnvOf fun _ => rfl
  | bt2Pcia k | bt2Pifi k | bt2Pfd k => exact callerPreset_inEnvOf (s.setBt2_inEnvOf env k)
  | cstLd | cst2Ld | lstLd => exact driverWrite_inEnvOf rfl
  | cstGetbt | cst2Getbt => exact callerUse_inEnvOf rfl fun _ => rfl
  | bt2Rdmode k | bt2Rdpresc k | bt2Rdts1 k | bt2Rdts2 k | bt2Rdsjw k | bt2Rdtdo k | bt2Ticks k | bt2Eq k =>
    exact callerRead_inEnvOf (s.bt2_inEnvOf env k)
  | btRd0 | btRd1 | btU16 | btBrp | btTs1 | btTs2 | btTicks | btEq
  | cstDec | cstRdop | cstRdload | cstRdstat
  | cst2Dec | cst2Rdop | cst2Rdex | cst2Rdload | cst2Rdstat
  | lstDec | lstRdop | lstRdload | lstRdstat | lstRdrate => exact callerRead_inEnvOf rfl

theorem runWord_inEnvOf (w : ReqWord) (s env : State) : runWord w (s.inEnvOf env) = resultInEnvOf env (runWord w s) := by
  cases hw : decode w with
  | ok i => simp only [runWord_of_decode hw, exec_inEnvOf]
  | error e =>
    rw [runWord_of_decode_error hw, runWord_of_decode_error hw]
    rfl

/-- The registers of rule R20 agree: the six holding registers, `RES` and `ERR`. -/
def SameRegisters (s t : State) : Prop := SameHolding s t ∧ t.res = s.res ∧ t.err = s.err

theorem SameHolding.refl (s : State) : SameHolding s s := ⟨rfl, rfl, rfl, rfl, rfl, rfl⟩

theorem SameHolding.symm {s t : State} (h : SameHolding s t) : SameHolding t s := by
  obtain ⟨hbt, hs0, hs1, hcst, hcst2, hlst⟩ := h
  exact ⟨hbt.symm, hs0.symm, hs1.symm, hcst.symm, hcst2.symm, hlst.symm⟩

theorem SameHolding.trans {s t u : State} (h : SameHolding s t) (h' : SameHolding t u) : SameHolding s u := by
  obtain ⟨hbt, hs0, hs1, hcst, hcst2, hlst⟩ := h
  obtain ⟨hbt', hs0', hs1', hcst', hcst2', hlst'⟩ := h'
  exact ⟨hbt'.trans hbt, hs0'.trans hs0, hs1'.trans hs1, hcst'.trans hcst, hcst2'.trans hcst2, hlst'.trans hlst⟩

theorem SameRegisters.refl (s : State) : SameRegisters s s := ⟨.refl s, rfl, rfl⟩

theorem SameRegisters.symm {s t : State} (h : SameRegisters s t) : SameRegisters t s := by
  obtain ⟨hholding, hres, herr⟩ := h
  exact ⟨hholding.symm, hres.symm, herr.symm⟩

theorem SameRegisters.trans {s t u : State} (h : SameRegisters s t) (h' : SameRegisters t u) : SameRegisters s u := by
  obtain ⟨hholding, hres, herr⟩ := h
  obtain ⟨hholding', hres', herr'⟩ := h'
  exact ⟨hholding.trans hholding', hres'.trans hres, herr'.trans herr⟩

/-- Two states whose registers and agent agree differ in nothing but what an operation does not look at. -/
theorem State.inEnvOf_eq {s t : State} (h : SameRegisters s t) (ha : t.agent = s.agent) : s.inEnvOf t = t := by
  obtain ⟨⟨hbt, hs0, hs1, hcst, hcst2, hlst⟩, hres, herr⟩ := h
  cases t
  simp_all [State.inEnvOf]

/-- From states whose registers and agent agree, a request leaves the same registers and gets the same response. -/
theorem runWord_congr {w : ReqWord} {s s' t : State} (h : SameRegisters s s') (ha : s'.agent = s.agent)
    (hrun : runWord w s = .next t) : ∃ t', runWord w s' = .next t' ∧ SameRegisters t t' ∧ t'.rsp = t.rsp := by
  refine ⟨{ t.inEnvOf s' with rsp := t.rsp }, ?_, ⟨.refl t, rfl, rfl⟩, rfl⟩
  rw [← State.inEnvOf_eq h ha, runWord_inEnvOf, hrun]
  rfl

/-! ### Every request is answered, to its agent, and touches no input (rules R80 and R249) -/

theorem Effect.sameInputs {i : Instr} {s u : State} (h : Effect i s u) : SameInputs s u := by
  cases h <;> simp [SameInputs]

theorem Effect.agent_eq {i : Instr} {s u : State} (h : Effect i s u) : u.agent = s.agent := by
  cases h <;> simp

theorem SameInputs.port_eq {s t : State} (h : SameInputs s t) (a : Agent) : t.port a = s.port a := by
  obtain ⟨hcaller, hdriver, -⟩ := h
  cases a with
  | caller => exact hcaller
  | driver => exact hdriver

theorem SameInputs.rst_eq {s t : State} (h : SameInputs s t) : t.rst = s.rst := by
  obtain ⟨-, -, hrst⟩ := h
  exact hrst

theorem exec_answered (i : Instr) (s : State) :
    ∃ t r, exec i s = .next t ∧ t.rsp = some r ∧ r.agent = s.agent ∧ SameInputs s t := by
  obtain ⟨c, -, h⟩ | ⟨-, u, hu, h⟩ := exec_answers i s
  · exact ⟨_, _, h, rfl, rfl, rfl, rfl, rfl⟩
  · exact ⟨_, _, h, rfl, hu.agent_eq, hu.sameInputs⟩

theorem runWord_answered (w : ReqWord) (s : State) :
    ∃ t r, runWord w s = .next t ∧ t.rsp = some r ∧ r.agent = s.agent ∧ SameInputs s t := by
  cases hw : decode w with
  | ok i =>
    rw [runWord_of_decode hw]
    exact exec_answered i s
  | error e =>
    rw [runWord_of_decode_error hw]
    exact ⟨_, _, raise_eq .illop s, rfl, rfl, rfl, rfl, rfl⟩

/-! ### Requests of one agent alone -/

theorem State.port_taking_same (s : State) (a : Agent) (ws : List ReqWord) : (s.taking a ws).port a = ws := by
  cases a <;> rfl

theorem State.port_taking_other (s : State) (a : Agent) (ws : List ReqWord) :
    (s.taking a ws).port (otherAgent a) = s.port (otherAgent a) := by
  cases a <;> rfl

theorem State.rst_taking (s : State) (a : Agent) (ws : List ReqWord) : (s.taking a ws).rst = s.rst := by
  cases a <;> rfl

theorem runRequests_cons_of_next {a : Agent} {w : ReqWord} {ws : List ReqWord} {s t : State}
    (h : runWord w (s.taking a ws) = .next t) : runRequests a (w :: ws) s = runRequests a ws t := by
  rw [runRequests, h]

/-- With the other port empty, a run over a port's requests is those requests in order. -/
theorem core_run_eq_runRequests (a : Agent) (ws : List ReqWord) (s : State) (hrst : s.rst = false)
    (hport : s.port a = ws) (hother : s.port (otherAgent a) = []) :
    Sys2Proof.core.run ws.length s = runRequests a ws s := by
  induction ws generalizing s with
  | nil => rfl
  | cons w ws ih =>
    obtain ⟨t, -, hrun, -, -, hinputs⟩ := runWord_answered w (s.taking a ws)
    have hstep : step s = .next t := (step_of_other_port_empty hrst hport hother).trans hrun
    have hrst' : t.rst = false := hinputs.rst_eq.trans ((s.rst_taking a ws).trans hrst)
    have hport' : t.port a = ws := (hinputs.port_eq a).trans (s.port_taking_same a ws)
    have hother' : t.port (otherAgent a) = [] := (hinputs.port_eq _).trans ((s.port_taking_other a ws).trans hother)
    rw [runRequests_cons_of_next hrun, ← ih t hrst' hport' hother']
    exact core_run_succ hstep

/-! ### Requests of both agents: what is presented, and what a step takes -/

theorem wordsOf_append (a : Agent) (qs qs' : List (Agent × ReqWord)) :
    wordsOf a (qs ++ qs') = wordsOf a qs ++ wordsOf a qs' :=
  List.filterMap_append

theorem State.present_sameRegisters (s : State) (a : Agent) (w : ReqWord) : SameRegisters s (s.present a w) := by
  cases a <;> exact .refl s

theorem State.present_rst (s : State) (a : Agent) (w : ReqWord) : (s.present a w).rst = s.rst := by
  cases a <;> rfl

/-- A presented request goes to the end of its agent's port. -/
theorem State.port_present (s : State) (a b : Agent) (w : ReqWord) :
    (s.present a w).port b = s.port b ++ wordsOf b [(a, w)] := by
  cases a with
  | caller =>
    cases b with
    | caller => rfl
    | driver => exact (List.append_nil s.driverPort).symm
  | driver =>
    cases b with
    | caller => exact (List.append_nil s.callerPort).symm
    | driver => rfl

theorem State.presentAll_cons (s : State) (q : Agent × ReqWord) (qs : List (Agent × ReqWord)) :
    s.presentAll (q :: qs) = (s.present q.1 q.2).presentAll qs := rfl

theorem State.presentAll_sameRegisters (s : State) (qs : List (Agent × ReqWord)) : SameRegisters s (s.presentAll qs) := by
  induction qs generalizing s with
  | nil => exact .refl s
  | cons q qs ih => exact (s.present_sameRegisters q.1 q.2).trans (ih _)

theorem State.presentAll_rst (s : State) (qs : List (Agent × ReqWord)) : (s.presentAll qs).rst = s.rst := by
  induction qs generalizing s with
  | nil => rfl
  | cons q qs ih => exact (ih _).trans (s.present_rst q.1 q.2)

theorem State.port_presentAll (s : State) (qs : List (Agent × ReqWord)) (a : Agent) :
    (s.presentAll qs).port a = s.port a ++ wordsOf a qs := by
  induction qs generalizing s with
  | nil => exact (List.append_nil _).symm
  | cons q qs ih =>
    calc
      (s.presentAll (q :: qs)).port a = s.port a ++ wordsOf a [q] ++ wordsOf a qs := by
        rw [s.presentAll_cons, ih, s.port_present]
      _ = s.port a ++ wordsOf a (q :: qs) := by rw [List.append_assoc, ← wordsOf_append, List.singleton_append]

/-- `q` is `s` with the word `w` of agent `a` taken off the head of its port: the registers, the other port and the reset
input are those of `s`. -/
def TakenFrom (s : State) (a : Agent) (w : ReqWord) (q : State) : Prop :=
  SameRegisters s q ∧ q.agent = a ∧ q.rst = s.rst ∧ ∀ b, wordsOf b [(a, w)] ++ q.port b = s.port b

/-- Without reset, a step waits and changes no register and no port, or runs a request taken from one of the ports. -/
theorem step_takes {s : State} (hrst : s.rst = false) :
    step s = .next { s with rsp := none } ∨ ∃ a w q, TakenFrom s a w q ∧ step s = runWord w q := by
  obtain ⟨hrst', -⟩ | ⟨-, -, -, h⟩ | ⟨-, w, ws, count, lead, ⟨hport, h⟩ | ⟨hport, h⟩⟩ := step_cases s
  · simp [hrst] at hrst'
  · exact .inl h
  · refine .inr ⟨.caller, w, _, ?_, h⟩
    refine ⟨.refl s, rfl, rfl, fun b => ?_⟩
    cases b with
    | caller => exact hport.symm
    | driver => rfl
  · refine .inr ⟨.driver, w, _, ?_, h⟩
    refine ⟨.refl s, rfl, rfl, fun b => ?_⟩
    cases b with
    | caller => rfl
    | driver => exact hport.symm

/-! ### Serial runs -/

/-- A serial run looks at the registers alone. -/
theorem RunsSerially.congr {s s' t : State} {merge : List (Agent × ReqWord)} (h : SameRegisters s s')
    (hrun : RunsSerially s merge t) : RunsSerially s' merge t := by
  induction merge generalizing s s' with
  | nil => exact h.symm.trans hrun
  | cons q later ih =>
    obtain ⟨a, w⟩ := q
    obtain ⟨u, r, hword, hrsp, hagent, hlater⟩ := hrun
    have hagents : SameRegisters { s with agent := a } { s' with agent := a } := h
    obtain ⟨u', hword', hsame, hrsp'⟩ := runWord_congr hagents rfl hword
    exact ⟨u', r, hword', hrsp'.trans hrsp, hagent, ih hsame hlater⟩

/-- A step is the first request of a serial run, or none of it. -/
theorem step_runsSerially {s : State} (hrst : s.rst = false) :
    ∃ (taken : List (Agent × ReqWord)) (t : State), step s = .next t ∧ t.rst = false ∧
      (∀ later t', RunsSerially t later t' → RunsSerially s (taken ++ later) t') ∧
      ∀ a, wordsOf a taken ++ t.port a = s.port a := by
  obtain h | ⟨a, w, q, ⟨hregs, hagent, hrst', hports⟩, h⟩ := step_takes hrst
  · have hsame : SameRegisters { s with rsp := none } s := .refl s
    exact ⟨[], _, h, hrst, fun later t' hrun => hrun.congr hsame, fun a => by cases a <;> rfl⟩
  · obtain ⟨t, r, hrun, hrsp, hto, hinputs⟩ := runWord_answered w q
    obtain ⟨u, hword, hsame, hrsp'⟩ := runWord_congr (s' := { s with agent := a }) hregs.symm hagent.symm hrun
    refine ⟨[(a, w)], t, h.trans hrun, hinputs.rst_eq.trans (hrst'.trans hrst), fun later t' hlater => ?_, fun b => ?_⟩
    · exact ⟨u, r, hword, hrsp'.trans hrsp, hto.trans hagent, hlater.congr hsame⟩
    · rw [hinputs.port_eq, hports]

theorem runPresenting_cons_of_next {requests : List (Agent × ReqWord)} {later : List (List (Agent × ReqWord))}
    {s t : State} (h : step (s.presentAll requests) = .next t) :
    runPresenting (requests :: later) s = runPresenting later t := by
  rw [runPresenting, h]

/-- Without reset, a run with requests presented before its steps is a serial run of a merge of the two agents' requests;
what the merge lacks still waits. -/
theorem runPresenting_runsSerially (presented : List (List (Agent × ReqWord))) (s : State) (hrst : s.rst = false) :
    ∃ (merge : List (Agent × ReqWord)) (t : State), runPresenting presented s = .next t ∧ RunsSerially s merge t ∧
      ∀ a, wordsOf a merge ++ t.port a = s.port a ++ wordsOf a presented.flatten := by
  induction presented generalizing s with
  | nil => exact ⟨[], s, rfl, SameRegisters.refl s, fun a => (List.append_nil _).symm⟩
  | cons requests later ih =>
    obtain ⟨taken, u, hstep, hrstu, hserial, hportu⟩ := step_runsSerially ((s.presentAll_rst requests).trans hrst)
    obtain ⟨merge, t, hrun, hmerge, hport⟩ := ih u hrstu
    refine ⟨taken ++ merge, t, (runPresenting_cons_of_next hstep).trans hrun, ?_, fun a => ?_⟩
    · exact (hserial merge t hmerge).congr (s.presentAll_sameRegisters requests).symm
    · calc
        wordsOf a (taken ++ merge) ++ t.port a = wordsOf a taken ++ (wordsOf a merge ++ t.port a) := by
          rw [wordsOf_append, List.append_assoc]
        _ = (s.presentAll requests).port a ++ wordsOf a later.flatten := by
          rw [hport, ← List.append_assoc, hportu]
        _ = s.port a ++ wordsOf a (requests :: later).flatten := by
          rw [s.port_presentAll, List.append_assoc, List.flatten_cons, wordsOf_append]

/-! ### The statements about the order of requests -/

/-- Settles O10: with both ports holding a request, the step is one of the two takings of `step_cases`. -/
theorem tieTakesOneOfTheTwoRequests : Obligations.TieTakesOneOfTheTwoRequests := by
  intro s c d cs ds hrst hcaller hdriver
  obtain ⟨hrst', -⟩ | ⟨-, hempty, -⟩ | ⟨-, w, ws, count, lead, ⟨hport, h⟩ | ⟨hport, h⟩⟩ := step_cases s
  · simp [hrst] at hrst'
  · simp [hcaller] at hempty
  · obtain ⟨rfl, rfl⟩ := List.cons.inj (hcaller.symm.trans hport)
    exact ⟨count, lead, .inl h⟩
  · obtain ⟨rfl, rfl⟩ := List.cons.inj (hdriver.symm.trans hport)
    exact ⟨count, lead, .inr h⟩

/-- Settles O11: one agent alone by induction on its port, both by induction on the steps of the run. -/
theorem requestsRunInIssueOrder : Obligations.RequestsRunInIssueOrder := by
  refine ⟨fun ws s hrst => ⟨fun hcaller hdriver => ?_, fun hcaller hdriver => ?_⟩, runPresenting_runsSerially⟩
  · exact core_run_eq_runRequests .caller ws s hrst hcaller hdriver
  · exact core_run_eq_runRequests .driver ws s hrst hdriver hcaller

end Sys2Proof.Machine

/-! SUPPORT. What a read-type operation does (rules R40, R45 and R63): all thirty are `callerRead` of one holding register,
which writes `RES` alone, and so leaves the register as the next one finds it. -/

namespace Sys2Proof.Machine

/-! ### Every read-type operation is a read of a holding register -/

/-- The operation puts a function of the data of one holding register into `RES`. -/
def ReadsHolding (i : Instr) : Prop :=
  ∃ (α : Type) (reg : State → Option α) (f : α → Word),
    (∀ s, exec i s = callerRead (reg s) s f) ∧ ∀ s t, SameHolding s t → reg t = reg s

theorem SameHolding.bt2_eq {s t : State} (h : SameHolding s t) (k : Slot) : t.bt2 k = s.bt2 k := by
  obtain ⟨-, hs0, hs1, -⟩ := h
  cases k with
  | s0 => exact hs0
  | s1 => exact hs1

section Families

variable {i : Instr}

theorem readsHolding_bt {f : BTVal → Word} (h : ∀ s, exec i s = callerRead s.bt s f) : ReadsHolding i :=
  ⟨_, State.bt, f, h, fun _ _ ⟨hbt, _⟩ => hbt⟩

theorem readsHolding_bt2 {k : Slot} {f : BT2Val → Word} (h : ∀ s, exec i s = callerRead (s.bt2 k) s f) :
    ReadsHolding i :=
  ⟨_, fun s => s.bt2 k, f, h, fun _ _ hsame => hsame.bt2_eq k⟩

theorem readsHolding_cst {f : CanSnapshot → Word} (h : ∀ s, exec i s = callerRead s.cst s f) : ReadsHolding i :=
  ⟨_, State.cst, f, h, fun _ _ ⟨_, _, _, hcst, _⟩ => hcst⟩

theorem readsHolding_cst2 {f : CanSnapshot2 → Word} (h : ∀ s, exec i s = callerRead s.cst2 s f) : ReadsHolding i :=
  ⟨_, State.cst2, f, h, fun _ _ ⟨_, _, _, _, hcst2, _⟩ => hcst2⟩

theorem readsHolding_lst {f : LinSnapshot → Word} (h : ∀ s, exec i s = callerRead s.lst s f) : ReadsHolding i :=
  ⟨_, State.lst, f, h, fun _ _ ⟨_, _, _, _, _, hlst⟩ => hlst⟩

end Families

theorem readsHolding_of_readType {i : Instr} (h : (infoOf i).readType = true) : ReadsHolding i := by
  cases i with
  | btRd0 | btRd1 | btU16 | btBrp | btTs1 | btTs2 | btTicks | btEq => exact readsHolding_bt fun _ => rfl
  | bt2Rdmode | bt2Rdpresc | bt2Rdts1 | bt2Rdts2 | bt2Rdsjw | bt2Rdtdo | bt2Ticks | bt2Eq =>
    exact readsHolding_bt2 fun _ => rfl
  | cstDec | cstRdop | cstRdload | cstRdstat => exact readsHolding_cst fun _ => rfl
  | cst2Dec | cst2Rdop | cst2Rdex | cst2Rdload | cst2Rdstat => exact readsHolding_cst2 fun _ => rfl
  | lstDec | lstRdop | lstRdload | lstRdstat | lstRdrate => exact readsHolding_lst fun _ => rfl
  | nop | btSet | btPreset | btPcia | bt2Set | bt2Pcia | bt2Pifi | bt2Pfd | fdpSet | fdpSingle | fdpPcia | fdpPshort
  | fdpPlong | cstLd | cst2Ld | lstLd | cstGetbt | cst2Getbt => cases h

/-! ### A read leaves everything as the next one finds it -/

theorem raise_kept {s t : State} {c : FaultCode} (h : raise c s = .next t) :
    SameHolding s t ∧ SameInputs s t ∧ t.agent = s.agent ∧ t.res = s.res := by
  cases h
  exact ⟨.refl s, ⟨rfl, rfl, rfl⟩, rfl, rfl⟩

/-- What a read puts into `RES`, by its agent and its register: the value, or what `RES` held where it faults. -/
theorem callerRead_next {α : Type} {reg : Option α} {f : α → Word} {s t : State} (h : callerRead reg s f = .next t) :
    SameHolding s t ∧ SameInputs s t ∧ t.agent = s.agent ∧
      t.res = if s.agent = .caller then (reg.map f).getD s.res else s.res := by
  obtain ⟨ha, hr⟩ | ⟨ha, rfl, hr⟩ | ⟨v, ha, rfl, hr⟩ := callerRead_cases reg s f
  · obtain ⟨hholding, hinputs, hagent, hres⟩ := raise_kept (hr.symm.trans h)
    exact ⟨hholding, hinputs, hagent, by simp [hres, ha]⟩
  · obtain ⟨hholding, hinputs, hagent, hres⟩ := raise_kept (hr.symm.trans h)
    exact ⟨hholding, hinputs, hagent, by simp [hres]⟩
  · rw [hr] at h
    cases h
    exact ⟨.refl s, ⟨rfl, rfl, rfl⟩, rfl, by simp [ha]⟩

/-- A read after the same read gives the same `RES`: its agent and its register are as they were. -/
theorem callerRead_again {α : Type} {reg : Option α} {f : α → Word} {s t u : State}
    (h : callerRead reg s f = .next t) (h' : callerRead reg t f = .next u) : u.res = t.res := by
  obtain ⟨-, -, hagent, hres⟩ := callerRead_next h
  obtain ⟨-, -, -, hres'⟩ := callerRead_next h'
  by_cases ha : s.agent = .caller
  · cases reg <;> simp [hres', hres, hagent, ha]
  · simp [hres', hagent, ha]

theorem err_eq_of_faultOf_eq_zero {i : Instr} {s t : State} (h : exec i s = .next t) (hf : faultOf i s = 0) :
    t.err = s.err := by
  obtain ⟨c, hc, -⟩ | ⟨-, u, hu, rfl⟩ := exec_next_cases h
  · exact absurd (hc.symm.trans hf) c.code_ne_zero
  · exact hu.err_eq

/-- Settles O30: a read-type operation is a read of one holding register, which it leaves as it was. -/
theorem readsChangeOnlyResAndRepeat : Obligations.ReadsChangeOnlyResAndRepeat := by
  intro i s t hread h
  obtain ⟨α, reg, f, hexec, hreg⟩ := readsHolding_of_readType hread
  obtain ⟨hholding, hinputs, -, -⟩ := callerRead_next ((hexec s).symm.trans h)
  obtain ⟨u, -, hu, -⟩ := exec_answered i t
  obtain ⟨hholding', -, -, -⟩ := callerRead_next ((hexec t).symm.trans hu)
  refine ⟨hholding, hinputs, err_eq_of_faultOf_eq_zero h, u, hu, ?_, hholding.trans hholding'⟩
  rw [hexec] at h hu
  rw [hreg s t hholding] at hu
  exact callerRead_again h hu

end Sys2Proof.Machine

/-! SUPPORT. The values of the preset tables that the spec settles (rules R51 to R57), and what is known of the OPEN pair
tables of rule R58 whatever their free constants are, in the order of the definitions of Machine/Tables.lean. -/

namespace Sys2Proof.Machine

/-! ### The settled values -/

theorem pairCia_halves_eq {p : FdPair} (hp : p ∈ pairCia) : p.std = p.fast := by
  obtain ⟨v, -, rfl⟩ := List.mem_map.mp hp
  rfl

/-- Settles O57: the settled entries are values of the tables, and a CiA pair is made of one entry twice. -/
theorem settledPresetEntries : Obligations.SettledPresetEntries :=
  ⟨rfl, rfl, rfl, rfl, rfl, rfl, rfl, fun _ => pairCia_halves_eq⟩

/-! ### What makes a value a legal half of a pair (rules R26 and R58) -/

/-- The entries of the three BitTimingValue2 tables. -/
def bt2Presets : List BT2Val := presetCia2 ++ presetIfi ++ presetCanfd

theorem isBt2Preset_iff (v : BT2Val) : isBt2Preset v = true ↔ v ∈ bt2Presets := decide_eq_true_iff

theorem mem_bt2Presets_of_mem_presetCia2 {v : BT2Val} (h : v ∈ presetCia2) : v ∈ bt2Presets :=
  List.mem_append_left _ (List.mem_append_left _ h)

theorem mem_bt2Presets_of_mem_presetIfi {v : BT2Val} (h : v ∈ presetIfi) : v ∈ bt2Presets :=
  List.mem_append_left _ (List.mem_append_right _ h)

theorem isLogicalPreset_iff (bps : Word) (v : BT2Val) :
    isLogicalPreset bps v = true ↔ v ∈ bt2Presets ∧ v.mode.getLsbD 0 = false ∧ v.presc = bps := by
  simp only [isLogicalPreset, isBt2Preset_iff, isRaw_eq_getLsbD, Bool.and_eq_true, Bool.not_eq_true', beq_iff_eq,
    and_assoc]

theorem cia2Entry_logical (bps : Word) (ts1 : Half) : (cia2Entry bps ts1).mode.getLsbD 0 = false := by
  simp [cia2Entry]

/-- A CiA entry is a logical preset with its own rate, so each witness of `legalOr` below is legal. -/
theorem isLogicalPreset_cia2Entry {bps : Word} {ts1 : Half} (h : cia2Entry bps ts1 ∈ presetCia2) :
    isLogicalPreset bps (cia2Entry bps ts1) = true :=
  (isLogicalPreset_iff _ _).mpr ⟨mem_bt2Presets_of_mem_presetCia2 h, cia2Entry_logical bps ts1, rfl⟩

/-- The data value has the rate: as its `presc` where it is logical, and by its place in the IFI table where it is raw. -/
def HasRate (v : BT2Val) (rate : Nat) : Prop :=
  (v.mode.getLsbD 0 = false ∧ v.presc.toNat = rate) ∨ (v, rate) ∈ presetIfi.zip ifiRates

theorem isRatedPreset_iff (f : BT2Val × Nat) : isRatedPreset f = true ↔ f.1 ∈ bt2Presets ∧ HasRate f.1 f.2 := by
  have hifi : f ∈ presetIfi.zip ifiRates → f.1 ∈ bt2Presets := fun h =>
    mem_bt2Presets_of_mem_presetIfi (List.of_mem_zip h).1
  simp only [isRatedPreset, isLogicalPreset_iff, HasRate, Bool.or_eq_true, Bool.and_eq_true, beq_iff_eq,
    decide_eq_true_iff]
  constructor
  · rintro (⟨⟨hmem, hlogical, -⟩, hrate⟩ | h)
    · exact ⟨hmem, .inl ⟨hlogical, hrate.symm⟩⟩
    · exact ⟨hifi h, .inr h⟩
  · rintro ⟨hmem, ⟨hlogical, hrate⟩ | h⟩
    · exact .inl ⟨⟨hmem, hlogical, trivial⟩, hrate.symm⟩
    · exact .inr h

theorem rising_iff_isChain (rs : List Nat) : rising rs = true ↔ rs.IsChain (· < ·) := by
  induction rs using rising.induct with
  | case1 => simp [rising]
  | case2 r => simp [rising]
  | case3 r r' rs ih => simp [rising, ih]

theorem rising_iff_pairwise (rs : List Nat) : rising rs = true ↔ rs.Pairwise (· < ·) :=
  (rising_iff_isChain rs).trans List.isChain_iff_pairwise

/-! ### The short pairs -/

theorem shortStd_spec : shortStd ∈ bt2Presets ∧ shortStd.mode.getLsbD 0 = false ∧ shortStd.presc = 500000 :=
  (isLogicalPreset_iff _ _).mp (legalOr_legal (isLogicalPreset_cia2Entry (by decide)))

theorem isRatedPreset_cia2Entry_1000k : isRatedPreset (cia2Entry 1000000 6, 1000000) = true :=
  (isRatedPreset_iff _).mpr ⟨mem_bt2Presets_of_mem_presetCia2 (by decide), .inl ⟨rfl, rfl⟩⟩

theorem isRatedPreset_shortFirst : isRatedPreset shortFirst = true :=
  legalOr_legal isRatedPreset_cia2Entry_1000k

theorem shortRest_spec :
    (∀ f ∈ shortRest, isRatedPreset f = true) ∧ rising (shortFirst.2 :: shortRest.map (·.2)) = true ∧
      shortRest.length ≤ 15 := by
  have hlegal := legalOr_legal
    (legal := fun fs : List (BT2Val × Nat) =>
      fs.all isRatedPreset && rising (shortFirst.2 :: fs.map (·.2)) && decide (fs.length ≤ 15))
    (raw := Config.shortRestOpen) (witness := []) rfl
  simp only [Bool.and_eq_true, List.all_eq_true, decide_eq_true_iff, and_assoc] at hlegal
  exact hlegal

theorem shortData_rated : ∀ f ∈ shortFirst :: shortRest, f.1 ∈ bt2Presets ∧ HasRate f.1 f.2 := by
  obtain ⟨hrest, -, -⟩ := shortRest_spec
  have hall : ∀ f ∈ shortFirst :: shortRest, isRatedPreset f = true :=
    List.forall_mem_cons.mpr ⟨isRatedPreset_shortFirst, hrest⟩
  exact fun f hf => (isRatedPreset_iff f).mp (hall f hf)

theorem shortRates_pairwise : ((shortFirst :: shortRest).map (·.2)).Pairwise (· < ·) := by
  obtain ⟨-, hrising, -⟩ := shortRest_spec
  exact (rising_iff_pairwise _).mp hrising

theorem nShort_eq : nShort = shortRest.length + 1 := by
  simp [nShort, pairShort]

theorem nShort_bounds : 1 ≤ nShort ∧ nShort ≤ 16 := by
  obtain ⟨-, -, hlength⟩ := shortRest_spec
  rw [nShort_eq]
  omega

theorem mem_pairShort_iff (p : FdPair) : p ∈ pairShort ↔ ∃ f ∈ shortFirst :: shortRest, ⟨shortStd, f.1⟩ = p :=
  List.mem_map

theorem pairShort_halves {p : FdPair} (hp : p ∈ pairShort) : p.std = shortStd ∧ p.fast ∈ bt2Presets := by
  obtain ⟨f, hf, rfl⟩ := (mem_pairShort_iff p).mp hp
  exact ⟨rfl, (shortData_rated f hf).1⟩

/-- Each short pair's data value has the rate that stands at its place. -/
theorem pairShort_hasRate :
    List.Forall₂ (fun p rate => HasRate p.fast rate) pairShort ((shortFirst :: shortRest).map (·.2)) := by
  rw [pairShort, List.forall₂_map_left_iff, List.forall₂_map_right_iff, List.forall₂_same]
  exact fun f hf => (shortData_rated f hf).2

/-! ### The long pairs -/

theorem longStd_spec : longStd ∈ bt2Presets ∧ longStd.mode.getLsbD 0 = false ∧ longStd.presc = 250000 :=
  (isLogicalPreset_iff _ _).mp (legalOr_legal (isLogicalPreset_cia2Entry (by decide)))

theorem longFirst_mem : longFirst ∈ bt2Presets :=
  (isBt2Preset_iff _).mp (legalOr_legal ((isBt2Preset_iff _).mpr (mem_bt2Presets_of_mem_presetCia2 (by decide))))

theorem longRest_spec : (∀ v ∈ longRest, v ∈ bt2Presets) ∧ longRest.length ≤ 15 := by
  have hlegal := legalOr_legal (legal := fun fs : List BT2Val => fs.all isBt2Preset && decide (fs.length ≤ 15))
    (raw := Config.longRestOpen) (witness := []) rfl
  simp only [Bool.and_eq_true, List.all_eq_true, isBt2Preset_iff, decide_eq_true_iff] at hlegal
  exact hlegal

theorem nLong_eq : nLong = longRest.length + 1 := by
  simp [nLong, pairLong]

theorem nLong_bounds : 1 ≤ nLong ∧ nLong ≤ 16 := by
  obtain ⟨-, hlength⟩ := longRest_spec
  rw [nLong_eq]
  omega

theorem pairLong_halves {p : FdPair} (hp : p ∈ pairLong) : p.std = longStd ∧ p.fast ∈ bt2Presets := by
  obtain ⟨hrest, -⟩ := longRest_spec
  obtain ⟨v, hv, rfl⟩ := List.mem_map.mp hp
  exact ⟨rfl, List.forall_mem_cons.mpr ⟨longFirst_mem, hrest⟩ v hv⟩

/-! ### The statement -/

theorem pair_halves_mem {p : FdPair} (hp : p ∈ pairShort ++ pairLong) : ∀ v ∈ [p.std, p.fast], v ∈ bt2Presets := by
  obtain ⟨hshort, -, -⟩ := shortStd_spec
  obtain ⟨hlong, -, -⟩ := longStd_spec
  suffices h : p.std ∈ bt2Presets ∧ p.fast ∈ bt2Presets by simpa using h
  obtain hp | hp := List.mem_append.mp hp
  · obtain ⟨hstd, hfast⟩ := pairShort_halves hp
    exact ⟨hstd ▸ hshort, hfast⟩
  · obtain ⟨hstd, hfast⟩ := pairLong_halves hp
    exact ⟨hstd ▸ hlong, hfast⟩

/-- Settles O59: every open half is chosen under the constraint it has to meet; the rates asked for are those that the
further short pairs were chosen with. -/
theorem pairTablesMeetTheirConstraints : Obligations.PairTablesMeetTheirConstraints := by
  obtain ⟨hshort, hshort'⟩ := nShort_bounds
  obtain ⟨hlong, hlong'⟩ := nLong_bounds
  obtain ⟨-, hshortLogical, hshortRate⟩ := shortStd_spec
  obtain ⟨-, hlongLogical, hlongRate⟩ := longStd_spec
  refine ⟨hshort, hshort', hlong, hlong', ?_, ?_, fun p hp => pair_halves_mem hp, ifiRates_length, ifiRates_head,
    ifiRates_getLast, ifiRates_pairwise, _, shortRates_pairwise, pairShort_hasRate⟩
  · exact ⟨shortStd, hshortLogical, hshortRate, fun p hp => (pairShort_halves hp).1⟩
  · exact ⟨longStd, hlongLogical, hlongRate, fun p hp => (pairLong_halves hp).1⟩

end Sys2Proof.Machine

/-! SUPPORT. What the decoder answers, said once for all 48 operations (rules R71 to R77 and R83): the operation of the
word's opcode with the operands read from its fields, or "illegal opcode". The statements about encoding are read off it. -/

namespace Sys2Proof.Machine

/-! ### The decoder, by the opcode alone -/

/-- An operation with its operands taken from the fields of a request. -/
def readOperands (f : Fields) : Instr → Instr
  | .btSet _ _ => .btSet f.btr0 f.btr1
  | .btPreset _ => .btPreset f.idx.toNat
  | .btPcia _ => .btPcia f.idx.toNat
  | .btEq _ _ => .btEq f.btr0 f.btr1
  | .bt2Set _ _ => .bt2Set (slotOf f.slot) (tupleOf f.a)
  | .bt2Pcia _ _ => .bt2Pcia (slotOf f.slot) f.idx.toNat
  | .bt2Pifi _ _ => .bt2Pifi (slotOf f.slot) f.idx.toNat
  | .bt2Pfd _ _ => .bt2Pfd (slotOf f.slot) f.idx.toNat
  | .bt2Rdmode _ => .bt2Rdmode (slotOf f.slot)
  | .bt2Rdpresc _ => .bt2Rdpresc (slotOf f.slot)
  | .bt2Rdts1 _ => .bt2Rdts1 (slotOf f.slot)
  | .bt2Rdts2 _ => .bt2Rdts2 (slotOf f.slot)
  | .bt2Rdsjw _ => .bt2Rdsjw (slotOf f.slot)
  | .bt2Rdtdo _ => .bt2Rdtdo (slotOf f.slot)
  | .bt2Ticks _ => .bt2Ticks (slotOf f.slot)
  | .bt2Eq _ _ => .bt2Eq (slotOf f.slot) (tupleOf f.a)
  | .fdpSet _ _ => .fdpSet (tupleOf f.a) (tupleOf f.b)
  | .fdpSingle _ => .fdpSingle (tupleOf f.a)
  | .fdpPcia _ => .fdpPcia f.idx.toNat
  | .fdpPshort _ => .fdpPshort f.idx.toNat
  | .fdpPlong _ => .fdpPlong f.idx.toNat
  | .cstLd _ _ _ _ _ => .cstLd f.opmode f.busload f.ctrlstat f.btr0 f.btr1
  | .cst2Ld _ _ _ _ _ _ => .cst2Ld f.opmode f.exmode f.busload f.ctrlstat (tupleOf f.a) (tupleOf f.b)
  | .lstLd _ _ _ _ => .lstLd f.opmode f.busload f.ctrlstat f.linrate
  | i => i

/-- The decoder takes the operation from the opcode and its operands from their fields, and reads nothing else. -/
theorem decodeFields_of_opcode {f : Fields} {i : Instr} (h : f.op = opcodeOf i) :
    decodeFields f = .ok (readOperands f i) := by
  unfold decodeFields
  rw [h]
  cases i <;> rfl

theorem opcodeOf_readOperands (f : Fields) (i : Instr) : opcodeOf (readOperands f i) = opcodeOf i := by
  cases i <;> rfl

theorem readOperands_readOperands (f : Fields) (i : Instr) : readOperands f (readOperands f i) = readOperands f i := by
  cases i <;> rfl

theorem decodeFields_of_unassigned {f : Fields} (h : f.op.toNat ∉ assignedOpcodes) :
    decodeFields f = .error (.illegalOpcode f.op) := by
  unfold decodeFields
  split
  case h_49 => rfl
  all_goals next hop => exact absurd (hop ▸ by decide) h

theorem opcodeOf_mem_assignedOpcodes (i : Instr) : (opcodeOf i).toNat ∈ assignedOpcodes := by
  by_contra h
  have herror := decodeFields_of_unassigned (f := opFields (opcodeOf i)) h
  rw [decodeFields_of_opcode rfl] at herror
  cases herror

/-- The decoder answers a request with nothing but an assigned opcode by an operation with that opcode. -/
theorem decodeFields_opFields_of_assigned :
    ∀ op ∈ assignedOpcodes, (decodeFields (opFields (BitVec.ofNat 8 op))).map opcodeOf = .ok (BitVec.ofNat 8 op) := by
  decide

theorem exists_opcodeOf_eq {op : Byte} (h : op.toNat ∈ assignedOpcodes) : ∃ i, opcodeOf i = op := by
  have hmap := decodeFields_opFields_of_assigned _ h
  rw [BitVec.ofNat_toNat, BitVec.setWidth_eq] at hmap
  cases hdecode : decodeFields (opFields op) with
  | ok i =>
    rw [hdecode] at hmap
    exact ⟨i, Except.ok.inj hmap⟩
  | error e =>
    rw [hdecode] at hmap
    cases hmap

/-! ### The decoder on request words -/

theorem decode_of_opcode {w : ReqWord} {i : Instr} (h : (fieldsOf w).op = opcodeOf i) :
    decode w = .ok (readOperands (fieldsOf w) i) :=
  decodeFields_of_opcode h

theorem decode_of_unassigned {w : ReqWord} (h : opcodeNat w ∉ assignedOpcodes) :
    decode w = .error (.illegalOpcode (fieldsOf w).op) :=
  decodeFields_of_unassigned (opcodeNat_eq_field w ▸ h)

/-- Everything the decoder can answer. -/
theorem decode_cases (w : ReqWord) :
    (∃ i, opcodeOf i = (fieldsOf w).op ∧ decode w = .ok (readOperands (fieldsOf w) i)) ∨
    (opcodeNat w ∉ assignedOpcodes ∧ decode w = .error (.illegalOpcode (fieldsOf w).op)) := by
  by_cases h : opcodeNat w ∈ assignedOpcodes
  · rw [opcodeNat_eq_field] at h
    obtain ⟨i, hi⟩ := exists_opcodeOf_eq h
    exact .inl ⟨i, hi, decode_of_opcode hi.symm⟩
  · exact .inr ⟨h, decode_of_unassigned h⟩

/-- The operation decoded is the one of the word's opcode with the operands that stand in the word. -/
theorem decode_eq_ok_iff {w : ReqWord} {i : Instr} :
    decode w = .ok i ↔ opcodeOf i = (fieldsOf w).op ∧ readOperands (fieldsOf w) i = i := by
  refine ⟨fun h => ?_, fun ⟨hop, hi⟩ => (decode_of_opcode hop.symm).trans (congrArg _ hi)⟩
  obtain ⟨j, hj, hw⟩ | ⟨-, hw⟩ := decode_cases w
  · obtain rfl : readOperands (fieldsOf w) j = i := Except.ok.inj (hw.symm.trans h)
    exact ⟨(opcodeOf_readOperands _ j).trans hj, readOperands_readOperands _ j⟩
  · cases hw.symm.trans h

/-! ### Decoding an encoding, and what is decoded (rules R72 to R77) -/

theorem toNat_ofNat_of_idxFits {idx : Nat} (h : idxFits idx = true) : (BitVec.ofNat 4 idx).toNat = idx :=
  Nat.mod_eq_of_lt (of_decide_eq_true h)

theorem idxFits_toNat (idx : BitVec 4) : idxFits idx.toNat = true :=
  decide_eq_true idx.isLt

theorem encodeFields_op (i : Instr) : (encodeFields i).op = opcodeOf i := by
  cases i <;> rfl

/-- The encoder puts every operand of a well-formed operation where the decoder reads it. -/
theorem readOperands_encodeFields {i : Instr} (h : WellFormed i = true) : readOperands (encodeFields i) i = i := by
  cases i with
  | btPreset | btPcia | bt2Pcia | bt2Pifi | bt2Pfd | fdpPcia | fdpPshort | fdpPlong =>
    simp [readOperands, encodeFields, toNat_ofNat_of_idxFits h]
  | _ => simp [readOperands, encodeFields, opFields, tupleOf_tupleBits]

theorem wellFormed_readOperands (f : Fields) (i : Instr) : WellFormed (readOperands f i) = true := by
  cases i with
  | btPreset | btPcia | bt2Pcia | bt2Pifi | bt2Pfd | fdpPcia | fdpPshort | fdpPlong => exact idxFits_toNat f.idx
  | _ => rfl

/-- Settles O1: the fields of an encoding are those it was made of, so the decoder finds the opcode and every operand. -/
theorem decodeEncodeRoundTrip : Obligations.DecodeEncodeRoundTrip := by
  intro i hwf
  have hfields : fieldsOf (encode i) = encodeFields i := fieldsOf_wordOf _
  rw [decode_eq_ok_iff, hfields]
  exact ⟨(encodeFields_op i).symm, readOperands_encodeFields hwf⟩

/-- Settles O2: the one operand that could be out of range is read from a 4-bit field. -/
theorem decodedInstructionIsWellFormed : Obligations.DecodedInstructionIsWellFormed := by
  intro w i h
  obtain ⟨-, hi⟩ := decode_eq_ok_iff.mp h
  exact hi ▸ wellFormed_readOperands (fieldsOf w) i

/-- Settles O3: an operation decoded has the word's opcode, which is assigned, and each assigned opcode has an operation. -/
theorem decodesExactlyTheAssignedOpcodes : Obligations.DecodesExactlyTheAssignedOpcodes := by
  refine ⟨fun w => ⟨fun ⟨i, h⟩ => ?_, fun hop => ?_⟩, rfl, rfl⟩
  · obtain ⟨hop, -⟩ := decode_eq_ok_iff.mp h
    rw [opcodeNat_eq_field, ← hop]
    exact opcodeOf_mem_assignedOpcodes i
  · obtain ⟨i, -, h⟩ | ⟨hunassigned, -⟩ := decode_cases w
    · exact ⟨_, h⟩
    · exact absurd hop hunassigned

/-! ### The fields an operation does not use (rules R72, R73 and R84) -/

/-- Words that agree under a mask agree on every field the mask covers. -/
theorem extractLsb'_eq_of_and_eq {w w' m : ReqWord} (h : w &&& m = w' &&& m) {lo len : Nat}
    (hm : m.extractLsb' lo len = BitVec.allOnes len) : w.extractLsb' lo len = w'.extractLsb' lo len := by
  have hmask := congrArg (·.extractLsb' lo len) h
  simpa [BitVec.extractLsb'_and, hm] using hmask

set_option exponentiation.threshold 304 in
/-- Rule R72's "used by" column covers every operand the decoder reads for the operation: for each opcode the mask holds
ones at all bits of each field read, and an operation without operands reads none. -/
theorem readOperands_eq_of_and_usedBits_eq {w w' : ReqWord} {i : Instr}
    (h : w &&& usedBits (opcodeOf i) = w' &&& usedBits (opcodeOf i)) :
    readOperands (fieldsOf w) i = readOperands (fieldsOf w') i := by
  cases i with
  | btSet | btPreset | btPcia | btEq | bt2Set | bt2Pcia | bt2Pifi | bt2Pfd | bt2Rdmode | bt2Rdpresc | bt2Rdts1
  | bt2Rdts2 | bt2Rdsjw | bt2Rdtdo | bt2Ticks | bt2Eq | fdpSet | fdpSingle | fdpPcia | fdpPshort | fdpPlong | cstLd
  | cst2Ld | lstLd =>
    simp only [opcodeOf] at h
    simp (disch := decide) only [readOperands, fieldsOf, extractLsb'_eq_of_and_eq h]
  | _ => rfl

/-- Every mask covers the opcode. -/
theorem usedBits_op (op : Byte) : (usedBits op).extractLsb' 0 8 = BitVec.allOnes 8 := by
  unfold usedBits
  split <;> simp

theorem usedBits_reserved (op : Byte) : (usedBits op).extractLsb' 13 3 = 0 := by
  unfold usedBits
  split <;> simp

theorem usedBits_getLsbD_reserved (op : Byte) {k : Nat} (hlo : 13 ≤ k) (hhi : k < 16) :
    (usedBits op).getLsbD k = false := by
  have hbit := congrArg (·.getLsbD (k - 13)) (usedBits_reserved op)
  have hk : k - 13 < 3 := by omega
  simpa [BitVec.getLsbD_extractLsb', hk, Nat.add_sub_cancel' hlo] using hbit

/-- Settles O4: words with the same opcode and the same used fields give the decoder the same opcode and operands. -/
theorem decodeIgnoresUnusedFields : Obligations.DecodeIgnoresUnusedFields := by
  intro w w' h
  have hop : (fieldsOf w).op = (fieldsOf w').op := extractLsb'_eq_of_and_eq h (usedBits_op _)
  obtain ⟨i, hi, hw⟩ | ⟨hunassigned, hw⟩ := decode_cases w
  · rw [opcodeNat_eq_field, BitVec.ofNat_toNat, BitVec.setWidth_eq, ← hi] at h
    rw [hw, readOperands_eq_of_and_usedBits_eq h, decode_of_opcode (hop.symm.trans hi.symm)]
  · rw [opcodeNat_eq_field, hop, ← opcodeNat_eq_field] at hunassigned
    rw [hw, decode_of_unassigned hunassigned, hop]

/-- Settles O5: no operation uses the reserved bits, so this is a case of `decodeIgnoresUnusedFields`. -/
theorem reservedRequestBitsIgnored : Obligations.ReservedRequestBitsIgnored := by
  intro w w' h
  refine decodeIgnoresUnusedFields w w' (BitVec.eq_of_getLsbD_eq fun k _ => ?_)
  rw [BitVec.getLsbD_and, BitVec.getLsbD_and]
  by_cases hk : 13 ≤ k ∧ k < 16
  · simp [usedBits_getLsbD_reserved _ hk.1 hk.2]
  · rw [h k (by omega) (by omega) (by omega)]

/-! ### Illegal opcodes, the request of a table word and the pseudo-operations (rules R77, R82, R222 and R231) -/

theorem runWord_of_unassigned {w : ReqWord} (h : opcodeNat w ∉ assignedOpcodes) (s : State) :
    runWord w s = .next (s.faulted 1) := by
  rw [runWord_of_decode_error (decode_of_unassigned h)]
  rfl

/-- Settles O15: the step takes the head of the one port that holds requests, and no operation decodes from it. -/
theorem illegalOpcodeRaisesIllop : Obligations.IllegalOpcodeRaisesIllop := by
  intro s w ws hrst hop
  refine ⟨fun hcaller hdriver => ?_, fun hcaller hdriver => ?_, runWord_of_unassigned hop⟩
  · exact (step_of_other_port_empty (a := .caller) hrst hcaller hdriver).trans (runWord_of_unassigned hop _)
  · exact (step_of_other_port_empty (a := .driver) hrst hdriver hcaller).trans (runWord_of_unassigned hop _)

set_option exponentiation.threshold 304 in
/-- Settles O6, by running the decoder on each word. -/
theorem specRequestWordsDecode : Obligations.SpecRequestWordsDecode := by
  unfold Obligations.SpecRequestWordsDecode
  decide

theorem idxCanfd1000k_fits : idxFits idxCanfd1000k = true :=
  decide_eq_true (idxCanfd1000k_lt.trans_le nCanfd_le)

/-- Settles O7: every index is a number below its table's length but for `IDX_CANFD_1000K`, which is in range whatever the
OPEN length is. -/
theorem pseudoOperationsExpandInRange : Obligations.PseudoOperationsExpandInRange := by
  refine ⟨rfl, rfl, rfl, rfl, rfl, rfl, rfl, rfl, rfl, fun k => ⟨rfl, rfl, rfl, rfl, rfl, rfl, rfl, rfl, rfl, rfl⟩, ?_⟩
  intro p
  cases p with
  | bt2Canfd1000k k => exact ⟨idxCanfd1000k_fits, decide_eq_true idxCanfd1000k_lt⟩
  | _ => exact ⟨rfl, rfl⟩

theorem mayIssue_agentFor (i : Instr) : mayIssue (agentFor (opcodeOf i)) i = true := by
  cases i <;> rfl

theorem State.agent_taking (s : State) (a : Agent) (ws : List ReqWord) : (s.taking a ws).agent = a := by
  cases a <;> rfl

/-- A request put where the next step takes it is taken by the next step. -/
theorem step_withRequest (s : State) (a : Agent) (w : ReqWord) :
    step (s.withRequest a w) = runWord w ((s.withRequest a w).taking a (s.port a)) := by
  cases a with
  | caller => exact step_of_other_port_empty (a := .caller) rfl rfl rfl
  | driver => exact step_of_other_port_empty (a := .driver) rfl rfl rfl

theorem sameRegisters_withRequest_taking (s : State) (a : Agent) (w : ReqWord) :
    SameRegisters s ((s.withRequest a w).taking a (s.port a)) := by
  cases a <;> exact SameRegisters.refl s

theorem decode_of_decodeTableWord {nbits w : Nat} {i : Instr} (h : decodeTableWord nbits w = some i) :
    decode (requestOfTableWord nbits w) = .ok i := by
  rw [decodeTableWord] at h
  cases hdecode : decode (requestOfTableWord nbits w) with
  | ok j =>
    rw [hdecode] at h
    exact congrArg Except.ok (Option.some.inj h)
  | error e =>
    rw [hdecode] at h
    cases h

/-- Settles O9: the word is taken from the port of the agent that may issue the operation of its opcode. -/
theorem fetchWordRunsNext : Obligations.FetchWordRunsNext := by
  intro s nbits w i h
  have hdecode : decode (requestOfTableWord nbits w) = .ok i := decode_of_decodeTableWord h
  obtain ⟨hop, -⟩ := decode_eq_ok_iff.mp hdecode
  obtain ⟨hholding, hres, herr⟩ := sameRegisters_withRequest_taking s (agentFor (opcodeOf i)) (requestOfTableWord nbits w)
  refine ⟨_, ?_, ?_, hholding, hres, herr⟩
  · rw [State.withFetchWord, ← hop, step_withRequest, runWord_of_decode hdecode]
  · rw [State.agent_taking]
    exact mayIssue_agentFor i

end Sys2Proof.Machine

/-! SUPPORT. The rule of each family of CALLER operations from its equation (rules R223 to R226), and the eleven
operations on the classic register `BT` with their decoded fields (rules R100 to R111). -/

namespace Sys2Proof.Machine

/-! ### The rule of an operation from its family -/

theorem raise_eq_faulted (c : FaultCode) (s : State) : raise c s = .next (s.faulted c.code) := rfl

section Families

variable {α : Type} {op : Nat}

theorem callerWriteRule_of_exec {i : Instr} {effect : State → State} (hop : (opcodeOf i).toNat = op)
    (hexec : ∀ s, exec i s = callerWrite s (effect s)) : CallerWriteRule op i effect := by
  refine ⟨(opcodeNat_encode i).trans hop, fun s => ?_⟩
  rw [hexec]
  obtain ⟨ha, h⟩ | ⟨ha, h⟩ := callerWrite_cases s (effect s)
  · exact ⟨fun _ => h, fun hd => by simp [ha] at hd⟩
  · exact ⟨fun hc => by simp [ha] at hc, fun _ => h.trans (raise_eq_faulted .priv s)⟩

theorem presetRule_of_exec {i : Nat → Instr} {table : List α} {entry : Nat → α} {write : State → α → State}
    (hop : ∀ idx, (opcodeOf (i idx)).toNat = op)
    (hexec : ∀ idx s, exec (i idx) s = callerPreset table idx s (write s))
    (hentry : ∀ idx, idx < table.length → table[idx]? = some (entry idx)) :
    PresetRule op i table.length entry write := by
  intro idx
  refine ⟨(opcodeNat_encode _).trans (hop idx), fun s => ?_⟩
  rw [hexec]
  obtain ⟨ha, h⟩ | ⟨ha, hidx, h⟩ | ⟨v, ha, hv, h⟩ := callerPreset_cases table idx s (write s)
  · exact ⟨fun hc => by simp [ha] at hc, fun hc => by simp [ha] at hc, fun _ => h.trans (raise_eq_faulted .priv s)⟩
  · exact ⟨fun _ hlt => absurd hidx (Nat.not_le.mpr hlt), fun _ _ => h.trans (raise_eq_faulted .badidx s),
      fun hd => by simp [ha] at hd⟩
  · obtain ⟨hlt, -⟩ := List.getElem?_eq_some_iff.mp hv
    obtain rfl : v = entry idx := Option.some.inj (hv.symm.trans (hentry idx hlt))
    exact ⟨fun _ _ => h, fun _ hle => absurd hle (Nat.not_le.mpr hlt), fun hd => by simp [ha] at hd⟩

theorem useRule_of_exec {i : Instr} {reg : State → Option α} {effect : State → α → State}
    (hop : (opcodeOf i).toNat = op) (hexec : ∀ s, exec i s = callerUse (reg s) s (effect s)) :
    UseRule op i reg effect := by
  refine ⟨(opcodeNat_encode i).trans hop, fun s => ?_⟩
  rw [hexec]
  obtain ⟨ha, h⟩ | ⟨ha, hnone, h⟩ | ⟨v, ha, hv, h⟩ := callerUse_cases (reg s) s (effect s)
  · exact ⟨fun _ hc => by simp [ha] at hc, fun hc => by simp [ha] at hc, fun _ => h.trans (raise_eq_faulted .priv s)⟩
  · exact ⟨fun _ _ hsome => by simp [hnone] at hsome, fun _ _ => h.trans (raise_eq_faulted .noval s),
      fun hd => by simp [ha] at hd⟩
  · refine ⟨fun data _ hdata => ?_, fun _ hnone => by simp [hv] at hnone, fun hd => by simp [ha] at hd⟩
    obtain rfl : v = data := Option.some.inj (hv.symm.trans hdata)
    exact h

theorem readRule_of_exec {i : Instr} {reg : State → Option α} {value : α → Word}
    (hop : (opcodeOf i).toNat = op) (hexec : ∀ s, exec i s = callerRead (reg s) s value) :
    ReadRule op i reg value :=
  useRule_of_exec hop hexec

/-- A read of a narrower field, which `RES` takes with zeros above it (rules R8 and R10). -/
theorem readRule_of_field {i : Instr} {reg : State → Option α} {n : Nat} {field : α → BitVec n} {value : α → Nat}
    (hop : (opcodeOf i).toNat = op) (hexec : ∀ s, exec i s = callerRead (reg s) s fun v => zext32 (field v))
    (hfield : ∀ v, (field v).toNat = value v) : ReadRule op i reg fun v => BitVec.ofNat 32 (value v) := by
  obtain rfl : value = fun v => (field v).toNat := funext fun v => (hfield v).symm
  exact readRule_of_exec hop fun s => by simp only [hexec, zext32, BitVec.ofNat_toNat]

end Families

theorem getElem?_eq_some_getD {α : Type} [Inhabited α] {table : List α} {idx : Nat} (h : idx < table.length) :
    table[idx]? = some (table.getD idx default) := by
  simp [h]

/-! ### The classic pair: its fields and its comparison (rules R106 and R111) -/

theorem brp_toNat (b : BTVal) : (brp b).toNat = b.btr0.toNat % 64 :=
  Nat.and_two_pow_sub_one_eq_mod b.btr0.toNat 6

theorem ts1_toNat (b : BTVal) : (ts1 b).toNat = b.btr1.toNat % 16 :=
  Nat.and_two_pow_sub_one_eq_mod b.btr1.toNat 4

theorem ts2_toNat (b : BTVal) : (ts2 b).toNat = b.btr1.toNat / 16 % 8 := by
  have hmask : (b.btr1 &&& 0x70) >>> 4 = (b.btr1 >>> 4) &&& 0x07 := BitVec.ushiftRight_and_distrib ..
  rw [ts2, hmask, BitVec.toNat_and, BitVec.toNat_ushiftRight, Nat.shiftRight_eq_div_pow]
  exact Nat.and_two_pow_sub_one_eq_mod (b.btr1.toNat / 2 ^ 4) 3

theorem u16_toNat (b : BTVal) : (u16 b).toNat = 256 * b.btr1.toNat + b.btr0.toNat := by
  have happend : u16 b = b.btr1 ++ b.btr0 := by
    rw [u16, BitVec.append_def, BitVec.shiftLeftZeroExtend_eq, BitVec.setWidth'_eq]
  rw [happend, BitVec.toNat_append, ← Nat.shiftLeft_add_eq_or_of_lt b.btr0.isLt, Nat.shiftLeft_eq, Nat.mul_comm]

/-- The comparison of rule R111 looks at every bit of both bytes. -/
theorem boolWord_beq_pair (b : BTVal) (btr0 btr1 : Byte) :
    boolWord (b.btr0 == btr0 && b.btr1 == btr1) = if b = ⟨btr0, btr1⟩ then 1 else 0 := by
  cases b
  simp [boolWord]

/-! ### The bit time (rules R106 and R110) -/

theorem ticks_eq (b : BTVal) :
    ticks b = 2 * (b.btr0.toNat % 64 + 1) * (b.btr1.toNat % 16 + b.btr1.toNat / 16 % 8 + 3) := by
  rw [ticks, brp_toNat, ts1_toNat, ts2_toNat]

theorem ticks_even (b : BTVal) : ticks b % 2 = 0 := by
  rw [ticks, Nat.mul_assoc, Nat.mul_mod_right]

/-- The fields are at most 63, 15 and 7, so half the bit time is between 1 times 3 and 64 times 25. -/
theorem ticks_bounds (b : BTVal) : 6 ≤ ticks b ∧ ticks b ≤ 3200 := by
  rw [ticks_eq]
  obtain ⟨hbrp2, hbrp128⟩ : 2 ≤ 2 * (b.btr0.toNat % 64 + 1) ∧ 2 * (b.btr0.toNat % 64 + 1) ≤ 128 := by omega
  obtain ⟨htsum3, htsum25⟩ : 3 ≤ b.btr1.toNat % 16 + b.btr1.toNat / 16 % 8 + 3 ∧
      b.btr1.toNat % 16 + b.btr1.toNat / 16 % 8 + 3 ≤ 25 := by omega
  exact ⟨Nat.mul_le_mul hbrp2 htsum3, Nat.mul_le_mul hbrp128 htsum25⟩

theorem ofNat_ticks_toNat (b : BTVal) : (BitVec.ofNat 32 (ticks b)).toNat = ticks b := by
  obtain ⟨-, hle⟩ := ticks_bounds b
  rw [BitVec.toNat_ofNat, Nat.mod_eq_of_lt (by omega)]

/-! ### The CiA view of the classic table (rules R52 and R102) -/

/-- The classic table has an entry for every index of `CIA_ALL`, so the CiA view leaves none of them out. -/
theorem ciaOf_presetBtr : ciaOf presetBtr = ciaAll.map fun j => presetBtr.getD j default := rfl

theorem ciaOf_presetBtr_getElem? {k : Nat} (hk : k < 8) :
    (ciaOf presetBtr)[k]? = some (presetBtr.getD (ciaAll.getD k 0) default) := by
  have hcia : k < ciaAll.length := hk
  simp [ciaOf_presetBtr, hcia]

theorem callerPreset_congr {α : Type} {table table' : List α} {idx idx' : Nat} {s : State} {write : α → State}
    (h : romRead table idx = romRead table' idx') :
    callerPreset table idx s write = callerPreset table' idx' s write := by
  rw [callerPreset, callerPreset, h]

/-- `CIA_ALL` counts the classic indices but 3, the 100 kbit/s entry. -/
theorem ciaAll_getD : ∀ k < 8, ciaAll.getD k 0 = if k < 3 then k else k + 1 := by decide

/-! ### The statements -/

/-- Settles O35: it is a CALLER write of the operand pair. -/
theorem btSetLoadsThePair : Obligations.BtSetLoadsThePair :=
  fun _ _ => callerWriteRule_of_exec rfl fun _ => rfl

/-- Settles O36: both are preset loads, the second from the CiA view of the same table. -/
theorem btPresetsLoadTableEntries : Obligations.BtPresetsLoadTableEntries := by
  constructor
  · exact presetRule_of_exec (table := presetBtr) (fun _ => rfl) (fun _ _ => rfl) fun _ => getElem?_eq_some_getD
  · exact presetRule_of_exec (table := ciaOf presetBtr) (fun _ => rfl) (fun _ _ => rfl) fun _ => ciaOf_presetBtr_getElem?

/-- Settles O37: the bit masks and shifts of rule R106 are the remainders and quotients of the two bytes. -/
theorem btReadsGiveTheDecodedFields : Obligations.BtReadsGiveTheDecodedFields :=
  ⟨readRule_of_field rfl (fun _ => rfl) fun _ => rfl,
   readRule_of_field rfl (fun _ => rfl) fun _ => rfl,
   readRule_of_field rfl (fun _ => rfl) u16_toNat,
   readRule_of_field rfl (fun _ => rfl) brp_toNat,
   readRule_of_field rfl (fun _ => rfl) ts1_toNat,
   readRule_of_field rfl (fun _ => rfl) ts2_toNat⟩

/-- Settles O38: the bit time is at most 128 times 25, far below the width of `RES`. -/
theorem btTicksGivesAnEvenBoundedBitTime : Obligations.BtTicksGivesAnEvenBoundedBitTime := by
  refine ⟨readRule_of_exec rfl fun _ => rfl, fun b => ?_⟩
  obtain ⟨hlow, hhigh⟩ := ticks_bounds b
  exact ⟨ticks_eq b, ticks_even b, hlow, hhigh, ofNat_ticks_toNat b⟩

/-- Settles O39: two pairs are equal when both bytes are, with no bit masked out. -/
theorem btEqComparesTheRawPair : Obligations.BtEqComparesTheRawPair := by
  intro btr0 btr1
  refine readRule_of_exec rfl fun s => ?_
  simp only [← boolWord_beq_pair]
  rfl

/-- Settles O40: both load from an entry of the same classic table, at the same place. -/
theorem btPciaSkipsThe100kPreset : Obligations.BtPciaSkipsThe100kPreset := by
  intro s k hk
  have hlt : (if k < 3 then k else k + 1) < presetBtr.length := by
    have hlength : presetBtr.length = 9 := rfl
    split <;> omega
  apply callerPreset_congr
  rw [romRead, romRead, ciaOf_presetBtr_getElem? hk, ciaAll_getD k hk, getElem?_eq_some_getD hlt]

end Sys2Proof.Machine

/-! SUPPORT. The twelve operations on the six-parameter registers `BT2[0]` and `BT2[1]` (rules R120 to R133): the rule of
each for any slot, what a read gives after a load, and why an operation on one slot does not see the other. -/

namespace Sys2Proof.Machine

/-! ### The rule of each operation, for any slot (rules R120 to R132) -/

theorem bt2Set_rule (k : Slot) (a : BT2Val) : CallerWriteRule 0x20 (.bt2Set k a) fun s => s.setBt2 k a :=
  callerWriteRule_of_exec rfl fun _ => rfl

theorem bt2Pcia_rule (k : Slot) :
    PresetRule 0x21 (.bt2Pcia k) 8 (fun idx => presetCia2.getD idx default) fun s => s.setBt2 k :=
  presetRule_of_exec (table := presetCia2) (fun _ => rfl) (fun _ _ => rfl) fun _ => getElem?_eq_some_getD

theorem bt2Pifi_rule (k : Slot) :
    PresetRule 0x22 (.bt2Pifi k) 7 (fun idx => presetIfi.getD idx default) fun s => s.setBt2 k :=
  presetRule_of_exec (table := presetIfi) (fun _ => rfl) (fun _ _ => rfl) fun _ => getElem?_eq_some_getD

theorem bt2Pfd_rule (k : Slot) :
    PresetRule 0x23 (.bt2Pfd k) nCanfd (fun idx => presetCanfd.getD idx default) fun s => s.setBt2 k :=
  presetRule_of_exec (table := presetCanfd) (fun _ => rfl) (fun _ _ => rfl) fun _ => getElem?_eq_some_getD

/-- The comparison of rule R131 looks at every bit of all six fields. -/
theorem boolWord_beq_tuple (v a : BT2Val) :
    boolWord (v.mode == a.mode && v.presc == a.presc && v.ts1 == a.ts1 && v.ts2 == a.ts2 && v.sjw == a.sjw
      && v.tdo == a.tdo) = if v = a then 1 else 0 := by
  cases v
  cases a
  simp [boolWord, and_assoc]

/-- Settles O41: it is a CALLER write of the operand tuple, and a write of one slot is a write of its field. -/
theorem btTwoSetLoadsOneSlot : Obligations.BtTwoSetLoadsOneSlot :=
  fun a => ⟨bt2Set_rule .s0 a, bt2Set_rule .s1 a⟩

/-- Settles O42: each is a preset load from its own table. -/
theorem btTwoPresetsLoadTableEntries : Obligations.BtTwoPresetsLoadTableEntries := by
  intro op i table length hrow
  simp only [List.mem_cons, Prod.mk.injEq, List.not_mem_nil, or_false] at hrow
  obtain ⟨rfl, rfl, rfl, rfl⟩ | ⟨rfl, rfl, rfl, rfl⟩ | ⟨rfl, rfl, rfl, rfl⟩ := hrow
  · exact ⟨bt2Pcia_rule .s0, bt2Pcia_rule .s1⟩
  · exact ⟨bt2Pifi_rule .s0, bt2Pifi_rule .s1⟩
  · exact ⟨bt2Pfd_rule .s0, bt2Pfd_rule .s1⟩

/-- Settles O43: five accessors widen their field with zeros, `presc` has the width of `RES`, and `BT2.TICKS` reads its
slot for the valid bit alone. -/
theorem btTwoReadsGiveTheFields : Obligations.BtTwoReadsGiveTheFields :=
  fun _ =>
    ⟨readRule_of_field rfl (fun _ => rfl) fun _ => rfl,
     readRule_of_exec rfl fun _ => rfl,
     readRule_of_field rfl (fun _ => rfl) fun _ => rfl,
     readRule_of_field rfl (fun _ => rfl) fun _ => rfl,
     readRule_of_field rfl (fun _ => rfl) fun _ => rfl,
     readRule_of_field rfl (fun _ => rfl) fun _ => rfl,
     readRule_of_exec rfl fun _ => rfl⟩

/-- Settles O44: two tuples are equal when all six fields are, with no bit masked out. -/
theorem btTwoEqComparesAllSixFields : Obligations.BtTwoEqComparesAllSixFields := by
  intro k a
  refine readRule_of_exec rfl fun s => ?_
  simp only [← boolWord_beq_tuple]
  rfl

/-! ### A preset read back (rule R133 (a)) -/

theorem PresetRule.exec_eq {α : Type} {op length idx : Nat} {i : Nat → Instr} {entry : Nat → α}
    {write : State → α → State} (h : PresetRule op i length entry write) {s : State} (ha : s.agent = .caller)
    (hidx : idx < length) : exec (i idx) s = .next (write s (entry idx)).done := by
  obtain ⟨-, hrule⟩ := h idx
  obtain ⟨hload, -, -⟩ := hrule s
  exact hload ha hidx

theorem ReadRule.exec_res {α : Type} {op : Nat} {i : Instr} {reg : State → Option α} {value : α → Word}
    (h : ReadRule op i reg value) {s : State} {data : α} (ha : s.agent = .caller) (hreg : reg s = some data) :
    ∃ u, exec i s = .next u ∧ u.res = value data := by
  obtain ⟨-, hrule⟩ := h
  obtain ⟨hread, -, -⟩ := hrule s
  exact ⟨_, hread data ha hreg, rfl⟩

/-- `RES` holds a field of at most 32 bits as the number it is. -/
theorem ReadRule.exec_res_toNat {α : Type} {op n : Nat} {i : Instr} {reg : State → Option α} {field : α → BitVec n}
    (h : ReadRule op i reg fun v => BitVec.ofNat 32 (field v).toNat) (hn : n ≤ 32) {s : State} {data : α}
    (ha : s.agent = .caller) (hreg : reg s = some data) :
    ∃ u, exec i s = .next u ∧ u.res.toNat = (field data).toNat := by
  obtain ⟨u, hu, hres⟩ := h.exec_res ha hreg
  exact ⟨u, hu, by rw [hres, BitVec.ofNat_toNat, BitVec.toNat_setWidth_of_le hn]⟩

/-- A preset load with its index in the table writes one value into its slot and is answered. -/
theorem bt2Preset_loads {i : Instr} {k : Slot} {idx : Nat} {s : State}
    (hi : i = .bt2Pcia k idx ∨ i = .bt2Pifi k idx ∨ i = .bt2Pfd k idx) (ha : s.agent = .caller)
    (hidx : indexOk i = true) : ∃ v, exec i s = .next (s.setBt2 k v).done := by
  obtain rfl | rfl | rfl := hi
  · exact ⟨_, (bt2Pcia_rule k).exec_eq ha (of_decide_eq_true hidx)⟩
  · exact ⟨_, (bt2Pifi_rule k).exec_eq ha (of_decide_eq_true hidx)⟩
  · exact ⟨_, (bt2Pfd_rule k).exec_eq ha (of_decide_eq_true hidx)⟩

theorem State.bt2_done (s : State) (k : Slot) : s.done.bt2 k = s.bt2 k := by cases k <;> rfl

/-- A slot that holds a value holds it also after a write of that value to either slot. -/
theorem State.bt2_setBt2_of_eq {s : State} {k : Slot} {v : BT2Val} (h : s.bt2 k = some v) (k' : Slot) :
    (s.setBt2 k' v).bt2 k = some v := by
  by_cases hk : k = k'
  · rw [hk, State.bt2_setBt2_same]
  · rw [State.bt2_setBt2_other _ _ _ _ hk, h]

/-- Settles O46: the load leaves some value in the slot, and every read after it is a function of that value. -/
theorem presetReadBackRebuildsTheValue : Obligations.PresetReadBackRebuildsTheValue := by
  intro i k k' idx s t hi ha hidx h
  obtain ⟨v, hload⟩ := bt2Preset_loads hi ha hidx
  obtain rfl : t = (s.setBt2 k v).done := by
    rw [hload] at h
    exact (Host.Outcome.next.inj h).symm
  have hslot : (s.setBt2 k v).done.bt2 k = some v := by rw [State.bt2_done, State.bt2_setBt2_same]
  have hagent : (s.setBt2 k v).done.agent = .caller := (s.setBt2_agent k v).trans ha
  obtain ⟨hmode, hpresc, hts1, hts2, hsjw, htdo, -⟩ := btTwoReadsGiveTheFields k
  obtain ⟨u, hu, heq⟩ := (btTwoEqComparesAllSixFields k v).exec_res hagent hslot
  obtain ⟨-, hrule⟩ := bt2Set_rule k' v
  obtain ⟨hset, -⟩ := hrule (s.setBt2 k v).done
  exact ⟨v, hslot,
    hmode.exec_res_toNat (by decide) hagent hslot,
    hpresc.exec_res hagent hslot,
    hts1.exec_res_toNat (by decide) hagent hslot,
    hts2.exec_res_toNat (by decide) hagent hslot,
    hsjw.exec_res_toNat (by decide) hagent hslot,
    htdo.exec_res_toNat (by decide) hagent hslot,
    ⟨u, hu, heq.trans (if_pos rfl)⟩,
    ⟨_, hset hagent, by rw [State.bt2_done, State.bt2_setBt2_same],
      by rw [State.bt2_done, State.bt2_setBt2_of_eq hslot]⟩⟩

/-! ### One slot beside the other (rule R133 (c)) -/

/-- The slot that an operation on slot `k` has nothing to do with. -/
def otherSlot : Slot → Slot
  | .s0 => .s1
  | .s1 => .s0

/-- A slot, data and valid bit, replaced by another value or by none. -/
def State.withBt2 (s : State) (j : Slot) (o : Option BT2Val) : State :=
  match j with
  | .s0 => { s with bt2s0 := o }
  | .s1 => { s with bt2s1 := o }

/-- The same in an outcome that is a next state. -/
def resultWithBt2 (j : Slot) (o : Option BT2Val) : Result → Result
  | .next t => .next (t.withBt2 j o)
  | .fault f => .fault f
  | .refused r => .refused r

section WithBt2

variable (s : State) (j : Slot) (o : Option BT2Val)

theorem State.withBt2_agent : (s.withBt2 j o).agent = s.agent := by cases j <;> rfl

theorem State.bt2_withBt2_same : (s.withBt2 j o).bt2 j = o := by cases j <;> rfl

theorem State.withBt2_bt2 : s.withBt2 j (s.bt2 j) = s := by cases j <;> rfl

theorem State.setRes_withBt2 (w : Word) : (s.withBt2 j o).setRes w = (s.setRes w).withBt2 j o := by cases j <;> rfl

theorem State.bt2_withBt2_other (k : Slot) : (s.withBt2 (otherSlot k) o).bt2 k = s.bt2 k := by cases k <;> rfl

theorem State.setBt2_withBt2_other (k : Slot) (v : BT2Val) :
    (s.withBt2 (otherSlot k) o).setBt2 k v = (s.setBt2 k v).withBt2 (otherSlot k) o := by cases k <;> rfl

theorem finish_withBt2 : finish (s.withBt2 j o) = resultWithBt2 j o (finish s) := by cases j <;> rfl

theorem raise_withBt2 (c : FaultCode) : raise c (s.withBt2 j o) = resultWithBt2 j o (raise c s) := by cases j <;> rfl

theorem onlyFor_withBt2 (a : Agent) (body : Result) :
    onlyFor a (s.withBt2 j o) (resultWithBt2 j o body) = resultWithBt2 j o (onlyFor a s body) := by
  rw [onlyFor, onlyFor, s.withBt2_agent, raise_withBt2, apply_ite (resultWithBt2 j o)]

variable {s j o}

theorem callerWrite_withBt2 {u u' : State} (hwrite : u' = u.withBt2 j o) :
    callerWrite (s.withBt2 j o) u' = resultWithBt2 j o (callerWrite s u) := by
  rw [callerWrite, callerWrite, hwrite, finish_withBt2, onlyFor_withBt2]

theorem callerPreset_withBt2 {α : Type} {table : List α} {idx : Nat} {write write' : α → State}
    (hwrite : ∀ v, write' v = (write v).withBt2 j o) :
    callerPreset table idx (s.withBt2 j o) write' = resultWithBt2 j o (callerPreset table idx s write) := by
  unfold callerPreset
  cases romRead table idx with
  | none => simp only [raise_withBt2, onlyFor_withBt2]
  | some v => simp only [hwrite, finish_withBt2, onlyFor_withBt2]

theorem callerRead_withBt2 {α : Type} {reg : Option α} {f : α → Word} :
    callerRead reg (s.withBt2 j o) f = resultWithBt2 j o (callerRead reg s f) := by
  unfold callerRead callerUse
  cases reg with
  | none => simp only [raise_withBt2, onlyFor_withBt2]
  | some v => simp only [State.setRes_withBt2, finish_withBt2, onlyFor_withBt2]

end WithBt2

/-- The operations that use a slot are its writes, its preset loads and its reads. -/
theorem usesSlot_cases {i : Instr} {k : Slot} (h : usesSlot i k) :
    (∃ v, ∀ s, exec i s = callerWrite s (s.setBt2 k v)) ∨
    (∃ table idx, ∀ s, exec i s = callerPreset table idx s (s.setBt2 k)) ∨
    (∃ f, ∀ s, exec i s = callerRead (s.bt2 k) s f) := by
  cases i with
  | bt2Set k' v =>
    obtain rfl : k' = k := by simpa [usesSlot, infoOf, infoWrite] using h
    exact .inl ⟨v, fun _ => rfl⟩
  | bt2Pcia k' idx | bt2Pifi k' idx | bt2Pfd k' idx =>
    obtain rfl : k' = k := by simpa [usesSlot, infoOf, infoPreset] using h
    exact .inr (.inl ⟨_, idx, fun _ => rfl⟩)
  | bt2Rdmode k' | bt2Rdpresc k' | bt2Rdts1 k' | bt2Rdts2 k' | bt2Rdsjw k' | bt2Rdtdo k' | bt2Ticks k' | bt2Eq k' =>
    obtain rfl : k' = k := by simpa [usesSlot, infoOf, infoRead] using h
    exact .inr (.inr ⟨_, fun _ => rfl⟩)
  | nop | btSet | btPreset | btPcia | btRd0 | btRd1 | btU16 | btBrp | btTs1 | btTs2 | btTicks | btEq
  | fdpSet | fdpSingle | fdpPcia | fdpPshort | fdpPlong | cstLd | cst2Ld | lstLd
  | cstDec | cstRdop | cstRdload | cstRdstat | cstGetbt
  | cst2Dec | cst2Rdop | cst2Rdex | cst2Rdload | cst2Rdstat | cst2Getbt
  | lstDec | lstRdop | lstRdload | lstRdstat | lstRdrate =>
    simp [usesSlot, infoOf, infoWrite, infoPreset, infoRead, infoCopy, infoLoad, bothSlots] at h

/-- Replacing the other slot before the operation is replacing it afterwards. -/
theorem exec_withBt2 {i : Instr} {k : Slot} (h : usesSlot i k) (s : State) (o : Option BT2Val) :
    exec i (s.withBt2 (otherSlot k) o) = resultWithBt2 (otherSlot k) o (exec i s) := by
  obtain ⟨v, hexec⟩ | ⟨table, idx, hexec⟩ | ⟨f, hexec⟩ := usesSlot_cases h
  · rw [hexec, hexec, callerWrite_withBt2 (s.setBt2_withBt2_other o k v)]
  · rw [hexec, hexec, callerPreset_withBt2 (s.setBt2_withBt2_other o k)]
  · rw [hexec, hexec, s.bt2_withBt2_other, callerRead_withBt2]

/-- That the operation leaves the other slot alone is `exec_withBt2` for the value that slot has already. -/
theorem otherSlot_independent {i : Instr} {k : Slot} {s t u : State} (huses : usesSlot i k) (h : exec i s = .next t) :
    t.bt2 (otherSlot k) = s.bt2 (otherSlot k) ∧
    ∀ o, exec i (s.withBt2 (otherSlot k) o) = .next u → u = t.withBt2 (otherSlot k) o := by
  have hother (o : Option BT2Val) : exec i (s.withBt2 (otherSlot k) o) = .next (t.withBt2 (otherSlot k) o) := by
    rw [exec_withBt2 huses, h]
    rfl
  constructor
  · have hself := hother (s.bt2 (otherSlot k))
    rw [s.withBt2_bt2, h] at hself
    rw [Host.Outcome.next.inj hself, State.bt2_withBt2_same]
  · exact fun o hu => Host.Outcome.next.inj (hu.symm.trans (hother o))

/-- Settles O45: `otherSlot_independent` for each of the two slots. -/
theorem slotsAreIndependent : Obligations.SlotsAreIndependent :=
  fun _ _ _ _ h => ⟨fun huses => otherSlot_independent huses h, fun huses => otherSlot_independent huses h⟩

end Sys2Proof.Machine

/-! SUPPORT. The five operations on the pair `FDP` (rules R140 to R144): the rule of each, and the CiA pair load as two
slot loads one after the other (rule R142). -/

namespace Sys2Proof.Machine

/-! ### The rule of each operation -/

theorem fdpSet_rule (a b : BT2Val) : CallerWriteRule 0x30 (.fdpSet a b) fun s => s.setFdp ⟨a, b⟩ :=
  callerWriteRule_of_exec rfl fun _ => rfl

theorem fdpSingle_rule (a : BT2Val) : CallerWriteRule 0x31 (.fdpSingle a) fun s => s.setFdp ⟨a, a⟩ :=
  callerWriteRule_of_exec rfl fun _ => rfl

theorem fdpPcia_rule : PresetRule 0x32 .fdpPcia 8 (fun idx => pairCia.getD idx default) State.setFdp :=
  presetRule_of_exec (table := pairCia) (fun _ => rfl) (fun _ _ => rfl) fun _ => getElem?_eq_some_getD

theorem fdpPshort_rule : PresetRule 0x33 .fdpPshort nShort (fun idx => pairShort.getD idx default) State.setFdp :=
  presetRule_of_exec (table := pairShort) (fun _ => rfl) (fun _ _ => rfl) fun _ => getElem?_eq_some_getD

theorem fdpPlong_rule : PresetRule 0x34 .fdpPlong nLong (fun idx => pairLong.getD idx default) State.setFdp :=
  presetRule_of_exec (table := pairLong) (fun _ => rfl) (fun _ _ => rfl) fun _ => getElem?_eq_some_getD

/-- Settles O47: each is a CALLER write of a pair, and a pair write is a write of the two slots' fields. -/
theorem fdpLoadsWriteBothSlots : Obligations.FdpLoadsWriteBothSlots :=
  ⟨fdpSet_rule, fdpSingle_rule⟩

/-- Settles O48: each is a preset load from its own pair table. -/
theorem fdpPresetsLoadTableEntries : Obligations.FdpPresetsLoadTableEntries := by
  intro op i table length hrow
  simp only [List.mem_cons, Prod.mk.injEq, List.not_mem_nil, or_false] at hrow
  obtain ⟨rfl, rfl, rfl, rfl⟩ | ⟨rfl, rfl, rfl, rfl⟩ | ⟨rfl, rfl, rfl, rfl⟩ := hrow
  · exact fdpPcia_rule
  · exact fdpPshort_rule
  · exact fdpPlong_rule

/-! ### A pair load as two slot loads (rules R57 and R142) -/

/-- An index past the table gives the default pair, whose halves are the default value too. -/
theorem pairCia_getD (k : Nat) :
    pairCia.getD k default = ⟨presetCia2.getD k default, presetCia2.getD k default⟩ :=
  List.getD_map presetCia2 default fun v => (⟨v, v⟩ : FdPair)

theorem State.done_agent (s : State) : s.done.agent = s.agent := rfl

/-- A pair write is a write of each slot: the response to the first is replaced by the response to the second, which is
the one the pair write gets. -/
theorem State.setFdp_done (s : State) (std fast : BT2Val) :
    (s.setFdp ⟨std, fast⟩).done = ((s.setBt2 .s0 std).done.setBt2 .s1 fast).done := rfl

/-- Settles O49: all three loads succeed, and the pair's entry is the slots' entry twice. -/
theorem fdpPciaIsTwoSlotLoads : Obligations.FdpPciaIsTwoSlotLoads := by
  intro s k ha hk
  have hfirst := (bt2Pcia_rule .s0).exec_eq ha hk
  have hagent : (s.setBt2 .s0 (presetCia2.getD k default)).done.agent = .caller := by
    rw [State.done_agent, State.setBt2_agent, ha]
  have hsecond := (bt2Pcia_rule .s1).exec_eq hagent hk
  have hpair := fdpPcia_rule.exec_eq ha hk
  rw [pairCia_getD, State.setFdp_done] at hpair
  exact ⟨_, hfirst, hsecond.trans hpair.symm⟩

end Sys2Proof.Machine

/-! SUPPORT. The line-status snapshots: each predicate as the bit its rule names (rules R152 to R184 and R191 to R195),
the number a decode word stands for (rules R166 and R177), and the loads, reads and copies of the three registers (rules
R150, R151, R167 to R170, R178 to R182, R190 and R197 to R200). -/

namespace Sys2Proof.Machine

/-! ### A predicate and its bit (rules R152 to R184 and R191 to R195) -/

theorem testMask_twoPow (v : Byte) (k : Fin 8) : testMask v (BitVec.twoPow 8 k) = v.getLsbD k := by
  have hmask : BitVec.twoPow 8 k ≠ 0 := by simp [← BitVec.toNat_inj, BitVec.toNat_twoPow_of_lt k.isLt]
  rw [testMask, BitVec.and_twoPow]
  cases v.getLsbD k with
  | false => rfl
  | true => exact bne_iff_ne.mpr hmask

theorem and_modeMask_beq (v m : Byte) : ((v &&& modeMask) == m) = decide (v.toNat % 4 = m.toNat) := by
  have hmod : (v &&& modeMask).toNat = v.toNat % 4 := Nat.and_two_pow_sub_one_eq_mod v.toNat 2
  rw [beq_eq_decide, decide_eq_decide, ← hmod, BitVec.toNat_inj]

theorem isModeUndefined_eq (v : Byte) : isModeUndefined v = decide (v.toNat % 4 = 0) := and_modeMask_beq v modeUndefined
theorem isModeStandard_eq (v : Byte) : isModeStandard v = decide (v.toNat % 4 = 1) := and_modeMask_beq v flagStandard
theorem isModeExtended_eq (v : Byte) : isModeExtended v = decide (v.toNat % 4 = 2) := and_modeMask_beq v flagExtended

section Bits

variable (v : Byte)

@[simp] theorem isErrorFramesEnabled_eq : isErrorFramesEnabled v = v.getLsbD 2 := testMask_twoPow v 2
@[simp] theorem isListenOnly_eq : isListenOnly v = v.getLsbD 3 := testMask_twoPow v 3
@[simp] theorem isLowSpeedEnabled_eq : isLowSpeedEnabled v = v.getLsbD 4 := testMask_twoPow v 4
@[simp] theorem isAutoBaudrateEnabled_eq : isAutoBaudrateEnabled v = v.getLsbD 5 := testMask_twoPow v 5
@[simp] theorem isTransmitPending_eq : isTransmitPending v = v.getLsbD 0 := testMask_twoPow v 0
@[simp] theorem hasDataOverrun_eq : hasDataOverrun v = v.getLsbD 1 := testMask_twoPow v 1
@[simp] theorem hasErrorOverrun_eq : hasErrorOverrun v = v.getLsbD 2 := testMask_twoPow v 2
@[simp] theorem isBusOff_eq : isBusOff v = v.getLsbD 3 := testMask_twoPow v 3
@[simp] theorem isInInitMode_eq : isInInitMode v = v.getLsbD 4 := testMask_twoPow v 4
@[simp] theorem isBusCouplingError_eq : isBusCouplingError v = v.getLsbD 5 := testMask_twoPow v 5
@[simp] theorem isExtendedDataLengthEnabled_eq : isExtendedDataLengthEnabled v = v.getLsbD 0 := testMask_twoPow v 0
@[simp] theorem isFastDataEnabled_eq : isFastDataEnabled v = v.getLsbD 1 := testMask_twoPow v 1
@[simp] theorem isNonIsoCanfdEnabled_eq : isNonIsoCanfdEnabled v = v.getLsbD 2 := testMask_twoPow v 2
@[simp] theorem isExtModeEnabled_true : isExtModeEnabled true v = v.getLsbD 2 := testMask_twoPow v 2
@[simp] theorem isExtModeEnabled_false : isExtModeEnabled false v = v.getLsbD 1 := testMask_twoPow v 1
@[simp] theorem isInMasterMode_eq : isInMasterMode v = v.getLsbD 0 := testMask_twoPow v 0
@[simp] theorem isErrModeEnabled_eq : isErrModeEnabled v = v.getLsbD 1 := testMask_twoPow v 1
@[simp] theorem hasLinDataOverrun_eq : hasLinDataOverrun v = v.getLsbD 0 := testMask_twoPow v 0
@[simp] theorem isLinInInitMode_eq : isLinInInitMode v = v.getLsbD 4 := testMask_twoPow v 4

/-- The two rules test the one bit for 0 and for not 0. -/
@[simp] theorem isInSlaveMode_eq_not : isInSlaveMode v = !isInMasterMode v := (Bool.not_not _).symm

end Bits

/-- Settles O56: the mode predicates compare the low two bits as a number, every other predicate tests a mask of one
bit. -/
theorem predicatesTestTheirBits : Obligations.PredicatesTestTheirBits := fun v =>
  ⟨by rw [isModeUndefined_eq, decide_eq_true_iff], by rw [isModeStandard_eq, decide_eq_true_iff],
   by rw [isModeExtended_eq, decide_eq_true_iff],
   isErrorFramesEnabled_eq v, isListenOnly_eq v, isLowSpeedEnabled_eq v, isAutoBaudrateEnabled_eq v,
   isTransmitPending_eq v, hasDataOverrun_eq v, hasErrorOverrun_eq v, isBusOff_eq v, isInInitMode_eq v,
   isBusCouplingError_eq v, isExtendedDataLengthEnabled_eq v, isFastDataEnabled_eq v, isNonIsoCanfdEnabled_eq v,
   isExtModeEnabled_true v, isExtModeEnabled_false v, isInMasterMode_eq v, isErrModeEnabled_eq v,
   hasLinDataOverrun_eq v, isLinInInitMode_eq v, isInSlaveMode_eq_not v⟩

/-! ### The number a decode word stands for (rule R166) -/

/-- The number with the given bits, from bit 0 up. -/
def flagValue (bs : List Bool) : Nat := Nat.ofDigits 2 (bs.map Bool.toNat)

theorem flagValue_cons (b : Bool) (bs : List Bool) : flagValue (b :: bs) = b.toNat + 2 * flagValue bs := by
  simp [flagValue, Nat.ofDigits_cons]

theorem flagValue_singleton (b : Bool) : flagValue [b] = b.toNat := by
  simp [flagValue]

theorem flagValue_append (bs bs' : List Bool) :
    flagValue (bs ++ bs') = flagValue bs + 2 ^ bs.length * flagValue bs' := by
  simp [flagValue, Nat.ofDigits_append]

theorem testBit_flagValue (bs : List Bool) (k : Nat) : (flagValue bs).testBit k = bs.getD k false := by
  induction bs generalizing k with
  | nil => exact Nat.zero_testBit k
  | cons b bs ih =>
    have hbit : flagValue (b :: bs) = Nat.bit b (flagValue bs) := by
      rw [flagValue_cons, Nat.bit_val, Nat.add_comm]
    rw [hbit]
    cases k with
    | zero => exact Nat.testBit_bit_zero b _
    | succ k => rw [Nat.testBit_bit_succ, ih, List.getD_cons_succ]

theorem flagWord_eq_ofNat (bs : List Bool) : flagWord bs = BitVec.ofNat 32 (flagValue bs) := by
  refine BitVec.eq_of_getLsbD_eq fun k hk => ?_
  rw [flagWord_getLsbD bs k hk, BitVec.getLsbD_ofNat, decide_eq_true hk, Bool.true_and, testBit_flagValue]

/-! ### The bits of a field in a decode word -/

/-- `n` neighbouring bits of a field, from bit `lo` up. -/
def fieldBits (v : Byte) (lo : Nat) : Nat → List Bool
  | 0 => []
  | n + 1 => v.getLsbD lo :: fieldBits v (lo + 1) n

theorem fieldBits_length (v : Byte) (lo n : Nat) : (fieldBits v lo n).length = n := by
  induction n generalizing lo with
  | zero => rfl
  | succ n ih => rw [fieldBits, List.length_cons, ih]

theorem getLsbD_toNat (v : Byte) (k : Nat) : (v.getLsbD k).toNat = v.toNat / 2 ^ k % 2 := Nat.toNat_testBit v.toNat k

theorem flagValue_fieldBits (v : Byte) (lo n : Nat) : flagValue (fieldBits v lo n) = v.toNat / 2 ^ lo % 2 ^ n := by
  induction n generalizing lo with
  | zero => rw [Nat.pow_zero, Nat.mod_one]; rfl
  | succ n ih =>
    rw [fieldBits, flagValue_cons, ih, getLsbD_toNat, Nat.pow_succ' (n := n), Nat.mod_mul, Nat.div_div_eq_div_mul,
      Nat.pow_succ]

/-! ### The mode code (rule R184) -/

/-- The three bits of the mode field's predicates. -/
def modeFlags (v : Byte) : List Bool := [isModeUndefined v, isModeStandard v, isModeExtended v]

/-- The mode code of a mode field `r`: one-hot, or 0 where both mode bits are set. -/
def modeCode (r : Nat) : Nat := [1, 2, 4, 0].getD r 0

theorem flagValue_modes : ∀ r < 4, flagValue [decide (r = 0), decide (r = 1), decide (r = 2)] = modeCode r := by
  decide

theorem flagValue_modeFlags (v : Byte) : flagValue (modeFlags v) = modeCode (v.toNat % 4) := by
  rw [modeFlags, isModeUndefined_eq, isModeStandard_eq, isModeExtended_eq]
  exact flagValue_modes _ (Nat.mod_lt _ (by decide))

/-! ### The decode words of the CAN snapshots (rules R166 and R177) -/

theorem canPredicates_eq (o c : Byte) :
    canPredicates o c = modeFlags o ++ fieldBits o 2 4 ++ fieldBits c 0 6 := by
  simp [canPredicates, modeFlags, fieldBits]

theorem canPredicates_length (o c : Byte) : (canPredicates o c).length = 13 := rfl

theorem flagValue_canPredicates (o c : Byte) :
    flagValue (canPredicates o c) =
      128 * (c.toNat % 64) + 8 * (o.toNat / 4 % 16) + modeCode (o.toNat % 4) := by
  have hmodes : (modeFlags o).length = 3 := rfl
  rw [canPredicates_eq, flagValue_append, flagValue_append, flagValue_modeFlags, flagValue_fieldBits,
    flagValue_fieldBits, List.length_append, fieldBits_length, hmodes]
  omega

theorem isExtModeEnabled_toNat (testsErrframe : Bool) (v : Byte) :
    (isExtModeEnabled testsErrframe v).toNat = v.toNat / (if testsErrframe then 4 else 2) % 2 := by
  cases testsErrframe with
  | false => rw [isExtModeEnabled_false]; exact getLsbD_toNat v 1
  | true => rw [isExtModeEnabled_true]; exact getLsbD_toNat v 2

/-- The bits that `CST2.DEC` adds above those of `CST.DEC`. -/
theorem flagValue_extension (testsErrframe : Bool) (e o : Byte) :
    flagValue [isExtendedDataLengthEnabled e, isFastDataEnabled e, isNonIsoCanfdEnabled e,
      isExtModeEnabled testsErrframe o] =
      8 * (o.toNat / (if testsErrframe then 4 else 2) % 2) + e.toNat % 8 := by
  have hbits : [isExtendedDataLengthEnabled e, isFastDataEnabled e, isNonIsoCanfdEnabled e,
      isExtModeEnabled testsErrframe o] = fieldBits e 0 3 ++ [isExtModeEnabled testsErrframe o] := by
    simp [fieldBits]
  rw [hbits, flagValue_append, flagValue_fieldBits, flagValue_singleton, fieldBits_length, isExtModeEnabled_toNat]
  omega

theorem cstWord_eq (x : CanSnapshot) :
    cstWord x = BitVec.ofNat 32 (128 * (x.ctrlstat.toNat % 64) + 8 * (x.opmode.toNat / 4 % 16) +
      modeCode (x.opmode.toNat % 4)) := by
  rw [cstWord, flagWord_eq_ofNat, flagValue_canPredicates]

theorem cst2Word_eq (testsErrframe : Bool) (x : CanSnapshot2) :
    cst2Word testsErrframe x =
      BitVec.ofNat 32 (65536 * (x.opmode.toNat / (if testsErrframe then 4 else 2) % 2) +
        8192 * (x.exmode.toNat % 8) + 128 * (x.ctrlstat.toNat % 64) + 8 * (x.opmode.toNat / 4 % 16) +
        modeCode (x.opmode.toNat % 4)) := by
  rw [cst2Word, flagWord_eq_ofNat, flagValue_append, flagValue_canPredicates, flagValue_extension,
    canPredicates_length]
  congr 1
  omega

/-- Settles O53: `CST.DEC` is a read of `cstWord`, whose bits are the mode code and two stretches of the two fields. -/
theorem cstDecodeWordClosedForm : Obligations.CstDecodeWordClosedForm :=
  readRule_of_exec rfl fun s => congrArg (callerRead s.cst s) (funext cstWord_eq)

/-- Settles O54: `CST2.DEC` is a read of `cst2Word`, whose closed form holds for either value of the parameter. -/
theorem cstTwoDecodeWordClosedForm : Obligations.CstTwoDecodeWordClosedForm :=
  readRule_of_exec rfl fun s => congrArg (callerRead s.cst2 s) (funext (cst2Word_eq Config.extenTestsErrframe))

/-! ### The loads, the raw reads and the copies of a snapshot -/

theorem driverLoadRule_of_exec {op : Nat} {i : Instr} {effect : State → State} (hop : (opcodeOf i).toNat = op)
    (hexec : ∀ s, exec i s = driverWrite s (effect s)) : DriverLoadRule op i effect := by
  refine ⟨(opcodeNat_encode i).trans hop, fun s => ?_⟩
  rw [hexec]
  obtain ⟨ha, h⟩ | ⟨ha, h⟩ := driverWrite_cases s (effect s)
  · exact ⟨fun _ => h, fun hc => by simp [ha] at hc⟩
  · exact ⟨fun hd => by simp [ha] at hd, fun _ => h.trans (raise_eq_faulted .priv s)⟩

/-- Settles O50: each is a DRIVER write of the operands as one snapshot. -/
theorem snapshotLoadsStoreTheFields : Obligations.SnapshotLoadsStoreTheFields :=
  ⟨fun _ _ _ _ _ => driverLoadRule_of_exec rfl fun _ => rfl,
   fun _ _ _ _ _ _ => driverLoadRule_of_exec rfl fun _ => rfl,
   fun _ _ _ _ => driverLoadRule_of_exec rfl fun _ => rfl⟩

/-- Settles O51: ten reads widen a byte with zeros, and the LIN bit rate has the width of `RES`. -/
theorem snapshotReadsGiveTheFields : Obligations.SnapshotReadsGiveTheFields :=
  ⟨readRule_of_field rfl (fun _ => rfl) fun _ => rfl,
   readRule_of_field rfl (fun _ => rfl) fun _ => rfl,
   readRule_of_field rfl (fun _ => rfl) fun _ => rfl,
   readRule_of_field rfl (fun _ => rfl) fun _ => rfl,
   readRule_of_field rfl (fun _ => rfl) fun _ => rfl,
   readRule_of_field rfl (fun _ => rfl) fun _ => rfl,
   readRule_of_field rfl (fun _ => rfl) fun _ => rfl,
   readRule_of_field rfl (fun _ => rfl) fun _ => rfl,
   readRule_of_field rfl (fun _ => rfl) fun _ => rfl,
   readRule_of_field rfl (fun _ => rfl) fun _ => rfl,
   readRule_of_exec rfl fun _ => rfl⟩

/-- Settles O52: each uses its snapshot for a write of `BT`, or of both slots, that leaves `RES` alone. -/
theorem getBtCopiesTheBitRates : Obligations.GetBtCopiesTheBitRates :=
  ⟨useRule_of_exec rfl fun _ => rfl, useRule_of_exec rfl fun _ => rfl⟩

end Sys2Proof.Machine

/-! SUPPORT. The decode word of the LIN snapshot (rules R191 to R196 and R201): the two predicates of the `Master` bit as
a one-hot code, and the three flags above it. -/

namespace Sys2Proof.Machine

/-- The slave and master predicates test one bit, so exactly one of the two low bits is set (rule R201). -/
theorem flagValue_linModes (v : Byte) :
    flagValue [isInSlaveMode v, isInMasterMode v] = if v.toNat % 2 = 0 then 1 else 2 := by
  have hmaster : v.getLsbD 0 = decide (v.toNat % 2 = 1) := Nat.testBit_zero v.toNat
  rw [isInSlaveMode_eq_not, isInMasterMode_eq, hmaster]
  obtain h | h := Nat.mod_two_eq_zero_or_one v.toNat <;> rw [h] <;> rfl

/-- The bits that `LST.DEC` puts above the mode: one of `opmode` and two of `ctrlstat`. -/
theorem flagValue_linFlags (o c : Byte) :
    flagValue [isErrModeEnabled o, hasLinDataOverrun c, isLinInInitMode c] =
      4 * (c.toNat / 16 % 2) + 2 * (c.toNat % 2) + o.toNat / 2 % 2 := by
  have herrors : (isErrModeEnabled o).toNat = o.toNat / 2 % 2 := by
    rw [isErrModeEnabled_eq]; exact getLsbD_toNat o 1
  have hoverrun : (hasLinDataOverrun c).toNat = c.toNat % 2 := by
    rw [hasLinDataOverrun_eq, getLsbD_toNat, Nat.pow_zero, Nat.div_one]
  have hinit : (isLinInInitMode c).toNat = c.toNat / 16 % 2 := by
    rw [isLinInInitMode_eq]; exact getLsbD_toNat c 4
  rw [flagValue_cons, flagValue_cons, flagValue_singleton, herrors, hoverrun, hinit]
  omega

theorem lstWord_eq (x : LinSnapshot) :
    lstWord x = BitVec.ofNat 32 (16 * (x.ctrlstat.toNat / 16 % 2) + 8 * (x.ctrlstat.toNat % 2) +
      4 * (x.opmode.toNat / 2 % 2) + (if x.opmode.toNat % 2 = 0 then 1 else 2)) := by
  have hsplit := flagValue_append [isInSlaveMode x.opmode, isInMasterMode x.opmode]
    [isErrModeEnabled x.opmode, hasLinDataOverrun x.ctrlstat, isLinInInitMode x.ctrlstat]
  rw [flagValue_linModes, flagValue_linFlags] at hsplit
  rw [lstWord, flagWord_eq_ofNat]
  refine congrArg (BitVec.ofNat 32) (hsplit.trans ?_)
  rw [List.length_cons, List.length_singleton]
  omega

/-- Settles O55: `LST.DEC` is a read of `lstWord`, the one-hot mode below the three flags. -/
theorem lstDecodeWordClosedForm : Obligations.LstDecodeWordClosedForm :=
  readRule_of_exec rfl fun s => congrArg (callerRead s.lst s) (funext lstWord_eq)

end Sys2Proof.Machine

/-! SUPPORT. The system operation `NOP` (rule R210): the one operation that rule R231 leaves open to both agents, and so
the one that no agent check, and no other check, can fail. -/

namespace Sys2Proof.Machine

/-! ### The agent check decides (rules R223 and R226) -/

/-- Rule R231's table names one agent for every operation but `NOP`. -/
theorem exists_infoOf_agent_of_ne_nop {i : Instr} (h : i ≠ .nop) : ∃ a, (infoOf i).agent = some a := by
  cases i with
  | nop => exact absurd rfl h
  | _ => exact ⟨_, rfl⟩

theorem not_mayIssue_otherAgent {i : Instr} {a : Agent} (h : (infoOf i).agent = some a) :
    mayIssue (otherAgent a) i = false := by
  rw [mayIssue, h]
  cases a <;> rfl

theorem FaultCode.eq_priv_of_code_eq {c : FaultCode} (h : c.code = 2) : c = .priv := by
  cases c with
  | priv => rfl
  | illop | badidx | noval => exact absurd h (by decide)

/-- The agent check comes first, so whatever the state holds, the wrong agent gets `PRIV`. -/
theorem exec_of_not_mayIssue {i : Instr} {s : State} (h : mayIssue s.agent i = false) : exec i s = raise .priv s := by
  have hpriv : faultOf i s = 2 := faultOf_of_not_mayIssue h
  obtain ⟨c, hcode, hexec⟩ | ⟨hzero, -⟩ := exec_answers i s
  · rwa [FaultCode.eq_priv_of_code_eq (hcode.symm.trans hpriv)] at hexec
  · exact absurd (hpriv.symm.trans hzero) (by decide)

/-! ### `NOP` (rule R210) -/

set_option exponentiation.threshold 304 in
theorem encode_nop : encode .nop = 0 := by decide

theorem exec_nop (s : State) : exec .nop s = .next s.done := rfl

/-- Settles O34: the decoder reads back `NOP`'s encoding, which is 0, and every other operation faults from the reset state
with the request made by the agent that may not issue it. -/
theorem nopChangesNothing : Obligations.NopChangesNothing := by
  refine ⟨encode_nop, ?_, exec_nop, fun i hi => ?_⟩
  · rw [← encode_nop]
    exact decodeEncodeRoundTrip .nop rfl
  · obtain ⟨a, ha⟩ := exists_infoOf_agent_of_ne_nop hi
    have hexec := exec_of_not_mayIssue (s := { State.reset with agent := otherAgent a }) (not_mayIssue_otherAgent ha)
    exact ⟨_, _, _, hexec.trans (raise_eq .priv _), State.respond_rsp _ _, FaultCode.priv.code_ne_zero⟩

end Sys2Proof.Machine

/-! SUPPORT. Faults, agents and what every step keeps (rules R221 to R234, R242 and R249): the invariant of `ERR` and the
response, the DRIVER's duty on the CAN bus load, and the one fault of an operation. All are read off what a step can take
and what one operation can do. -/

namespace Sys2Proof.Machine

/-! ### One word and one step, from the state they answer -/

/-- Everything that can stand after a request word: its operation's next state, or `ILLOP`'s (rule R77). -/
theorem runWord_next_cases {w : ReqWord} {s t : State} (h : runWord w s = .next t) :
    (∃ i, decode w = .ok i ∧ exec i s = .next t) ∨ t = (s.recordFault .illop).respond FaultCode.illop.code := by
  cases hw : decode w with
  | ok i => exact .inl ⟨i, rfl, (runWord_of_decode hw s).symm.trans h⟩
  | error e =>
    rw [runWord_of_decode_error hw, raise_eq] at h
    cases h
    exact .inr rfl

theorem runWord_sameInputs {w : ReqWord} {s t : State} (h : runWord w s = .next t) : SameInputs s t := by
  obtain ⟨t', -, h', -, -, hinputs⟩ := runWord_answered w s
  cases h'.symm.trans h
  exact hinputs

/-- Everything that can stand after a step: the reset state, the same state without a response, or what a request taken
from a port leaves. -/
theorem step_next_cases {s t : State} (h : step s = .next t) :
    t = s.afterReset ∨ t = { s with rsp := none } ∨ ∃ a w q, TakenFrom s a w q ∧ runWord w q = .next t := by
  obtain hrst | hrst := Bool.eq_false_or_eq_true s.rst
  · have hreset : step s = .next s.afterReset := by rw [step, State.take, hrst]; rfl
    exact .inl (Host.Outcome.next.inj (h.symm.trans hreset))
  · obtain hwait | ⟨a, w, q, htaken, hrun⟩ := step_takes hrst
    · exact .inr (.inl (Host.Outcome.next.inj (h.symm.trans hwait)))
    · exact .inr (.inr ⟨a, w, q, htaken, hrun.symm.trans h⟩)

theorem TakenFrom.mem_port {s q : State} {a : Agent} {w : ReqWord} (h : TakenFrom s a w q) : w ∈ s.port a := by
  obtain ⟨-, -, -, hports⟩ := h
  simp [← hports a, wordsOf]

theorem TakenFrom.port_subset {s q : State} {a : Agent} {w : ReqWord} (h : TakenFrom s a w q) (b : Agent) :
    q.port b ⊆ s.port b := by
  obtain ⟨-, -, -, hports⟩ := h
  rw [← hports b]
  exact List.subset_append_right _ _

/-! ### `ERR` and the response (rules R41, R80 and R221) -/

theorem FaultCode.code_toNat_le (c : FaultCode) : c.code.toNat ≤ 4 := by cases c <;> decide

theorem State.recordFault_err_toNat_le {s : State} (h : s.err.toNat ≤ 4) (c : FaultCode) :
    (s.recordFault c).err.toNat ≤ 4 := by
  rw [State.recordFault_err]
  split
  · exact c.code_toNat_le
  · exact h

theorem State.recordFault_err_ne_zero (s : State) (c : FaultCode) : (s.recordFault c).err ≠ 0 := by
  rw [State.recordFault_err]
  split
  · exact c.code_ne_zero
  · assumption

theorem State.inv_of_rsp_none {s : State} (herr : s.err.toNat ≤ 4) (hrsp : s.rsp = none) : s.Inv :=
  ⟨herr, by simp [hrsp]⟩

/-- A response shows `RES` and the agent by itself; its code has to be one of rule R221 that `ERR` knows of. -/
theorem State.inv_respond {s : State} {f : BitVec 3} (herr : s.err.toNat ≤ 4) (hf : f.toNat ≤ 4)
    (hrecorded : f ≠ 0 → s.err ≠ 0) : (s.respond f).Inv := by
  refine ⟨herr, fun r hr => ?_⟩
  cases hr
  exact ⟨hf, rfl, rfl, hrecorded⟩

theorem State.inv_raise {s : State} (herr : s.err.toNat ≤ 4) (c : FaultCode) :
    ((s.recordFault c).respond c.code).Inv :=
  State.inv_respond (State.recordFault_err_toNat_le herr c) c.code_toNat_le fun _ => s.recordFault_err_ne_zero c

theorem exec_inv {i : Instr} {s t : State} (herr : s.err.toNat ≤ 4) (h : exec i s = .next t) : t.Inv := by
  obtain ⟨c, -, rfl⟩ | ⟨-, u, hu, rfl⟩ := exec_next_cases h
  · exact State.inv_raise herr c
  · exact State.inv_respond (by rwa [hu.err_eq]) (by decide) fun hzero => absurd rfl hzero

theorem runWord_inv {w : ReqWord} {s t : State} (herr : s.err.toNat ≤ 4) (h : runWord w s = .next t) : t.Inv := by
  obtain ⟨i, -, hexec⟩ | rfl := runWord_next_cases h
  · exact exec_inv herr hexec
  · exact State.inv_raise herr .illop

/-- Settles O26: the reset and a waiting step leave no response, and a request is answered with a code that `ERR` has
recorded, whatever response stood before it. -/
theorem stepKeepsInvariant : Obligations.StepKeepsInvariant := by
  rintro s t ⟨herr, -⟩ h
  obtain rfl | rfl | ⟨a, w, q, ⟨⟨-, -, herrq⟩, -⟩, hrun⟩ := step_next_cases h
  · exact State.inv_of_rsp_none (Nat.zero_le 4) rfl
  · exact State.inv_of_rsp_none herr rfl
  · exact runWord_inv (herrq ▸ herr) hrun

/-! ### The bus load of the CAN snapshots (rules R29 and R234) -/

/-- The CAN snapshots hold a bus load of at most 100: what `State.BusloadDuty` says of the registers. -/
def State.BusloadsKept (s : State) : Prop :=
  (∀ x, s.cst = some x → x.busload.toNat ≤ 100) ∧ ∀ x, s.cst2 = some x → x.busload.toNat ≤ 100

theorem State.busloadDuty_iff (s : State) : s.BusloadDuty ↔ s.BusloadsKept ∧ ∀ w ∈ s.driverPort, busloadOk w :=
  and_assoc.symm

theorem State.BusloadsKept.congr {s t : State} (h : s.BusloadsKept) (hsame : SameHolding s t) : t.BusloadsKept := by
  obtain ⟨-, -, -, hcst, hcst2, -⟩ := hsame
  rwa [State.BusloadsKept, hcst, hcst2]

theorem busload_le_of_cstLd {w : ReqWord} {o l c b0 b1 : Byte} (hw : decode w = .ok (.cstLd o l c b0 b1))
    (hok : busloadOk w) : l.toNat ≤ 100 := by
  rwa [busloadOk, hw] at hok

theorem busload_le_of_cst2Ld {w : ReqWord} {o e l c : Byte} {a b : BT2Val}
    (hw : decode w = .ok (.cst2Ld o e l c a b)) (hok : busloadOk w) : l.toNat ≤ 100 := by
  rwa [busloadOk, hw] at hok

/-- Only a request of the DRIVER has to keep the duty: one of the CALLER changes no snapshot (rule R38). -/
theorem exec_keeps_busloads {w : ReqWord} {i : Instr} {s t : State} (hw : decode w = .ok i)
    (hok : s.agent = .driver → busloadOk w) (hs : s.BusloadsKept) (h : exec i s = .next t) : t.BusloadsKept := by
  obtain ⟨hscst, hscst2⟩ := hs
  obtain ⟨hcst, hcst2, -⟩ := onlyDriverLoadsChangeSnapshots i s t h
  constructor
  · obtain hsame | ⟨ha, o, l, c, b0, b1, rfl, hset⟩ := hcst
    · rwa [hsame]
    · intro x hx
      cases hset.symm.trans hx
      exact busload_le_of_cstLd hw (hok ha)
  · obtain hsame | ⟨ha, o, e, l, c, a, b, rfl, hset⟩ := hcst2
    · rwa [hsame]
    · intro x hx
      cases hset.symm.trans hx
      exact busload_le_of_cst2Ld hw (hok ha)

theorem runWord_keeps_busloads {w : ReqWord} {s t : State} (hok : s.agent = .driver → busloadOk w)
    (hs : s.BusloadsKept) (h : runWord w s = .next t) : t.BusloadsKept := by
  obtain ⟨i, hw, hexec⟩ | rfl := runWord_next_cases h
  · exact exec_keeps_busloads hw hok hs hexec
  · exact hs

/-- Settles O28: a request of the DRIVER comes from its port, where every load keeps the duty, and what stays at the port
was there before. -/
theorem stepKeepsBusloadDuty : Obligations.StepKeepsBusloadDuty := by
  intro s t hs h
  rw [State.busloadDuty_iff] at hs ⊢
  obtain ⟨hkept, hport⟩ := hs
  obtain rfl | rfl | ⟨a, w, q, htaken, hrun⟩ := step_next_cases h
  · exact ⟨⟨nofun, nofun⟩, nofun⟩
  · exact ⟨hkept, hport⟩
  · have hmem := htaken.mem_port
    have hsubset : q.driverPort ⊆ s.driverPort := htaken.port_subset .driver
    have hports : t.driverPort = q.driverPort := (runWord_sameInputs hrun).port_eq .driver
    obtain ⟨⟨hholding, -, -⟩, rfl, -, -⟩ := htaken
    refine ⟨runWord_keeps_busloads (fun ha => ?_) (hkept.congr hholding) hrun, fun w' hw' => ?_⟩
    · rw [ha] at hmem
      exact hport w hmem
    · exact hport w' (hsubset (hports ▸ hw'))

/-! ### The one fault of an operation (rules R221, R223 and R226) -/

/-- Settles O20: whether the first failing check raises its fault or no check fails, the response is made last. -/
theorem firstFailingCheckDecidesTheFault : Obligations.FirstFailingCheckDecidesTheFault := by
  intro i s
  obtain ⟨c, hf, h⟩ | ⟨hf, u, hu, h⟩ := exec_answers i s
  · exact ⟨_, _, h, rfl, rfl, rfl, hf.symm⟩
  · exact ⟨_, _, h, rfl, hu.agent_eq, rfl, hf.symm⟩

/-- Settles O21: a failing check raises its fault, and a fault is `State.faulted`. -/
theorem faultChangesNothingButErr : Obligations.FaultChangesNothingButErr := by
  intro i s hfault
  obtain ⟨c, hf, h⟩ | ⟨hf, -⟩ := exec_answers i s
  · rw [hf]
    exact h.trans (raise_eq_faulted c s)
  · exact absurd hf hfault

/-- The code of `PRIV` is that of the agent check alone. -/
theorem faultOf_eq_two_iff (i : Instr) (s : State) : faultOf i s = 2 ↔ mayIssue s.agent i = false := by
  refine ⟨fun hf => ?_, faultOf_of_not_mayIssue⟩
  by_contra hissue
  rw [faultOf, if_neg hissue] at hf
  split at hf
  · exact absurd hf (by decide)
  · split at hf
    · exact absurd hf (by decide)
    · exact absurd hf (by decide)

/-- Settles O22: the response carries `faultOf`, which is `PRIV`'s code where the agent check fails. -/
theorem privAnswersExactlyTheWrongAgent : Obligations.PrivAnswersExactlyTheWrongAgent := by
  intro i s t r h hr
  obtain ⟨t', r', h', hr', -, -, hf⟩ := firstFailingCheckDecidesTheFault i s
  cases h'.symm.trans h
  cases hr'.symm.trans hr
  rw [hf, faultOf_eq_two_iff]

/-! ### What the DRIVER may touch (rules R20, R40 and R231) -/

/-- The DRIVER's operations are `NOP` and the three loads: none is read-type, and each writes a snapshot at most. -/
theorem infoOf_of_mayIssue_driver {i : Instr} (h : mayIssue .driver i = true) :
    (infoOf i).readType = false ∧ ∀ r ∈ (infoOf i).writes, r = .cst ∨ r = .cst2 ∨ r = .lst := by
  cases i with
  | nop | cstLd | cst2Ld | lstLd => simp [infoOf, infoLoad]
  | _ => cases h

/-- Settles O24: a request the DRIVER may not make raises `PRIV`, and those it may make write neither `RES` nor a register
of the CALLER. -/
theorem driverNeverChangesCallerRegisters : Obligations.DriverNeverChangesCallerRegisters := by
  intro i s t ha h
  cases hissue : mayIssue .driver i with
  | false =>
    rw [exec_of_not_mayIssue (ha ▸ hissue), raise_eq] at h
    cases h
    exact ⟨rfl, rfl, rfl, rfl⟩
  | true =>
    obtain ⟨hread, hwrites⟩ := infoOf_of_mayIssue_driver hissue
    obtain ⟨hsame, -⟩ := holdingRegistersHaveTheirWriters i s t h
    refine ⟨hsame .bt fun hr => ?_, hsame (.bt2 .s0) fun hr => ?_, hsame (.bt2 .s1) fun hr => ?_,
      onlyReadsWriteRes i s t hread h⟩
    · simpa using hwrites _ hr
    · simpa using hwrites _ hr
    · simpa using hwrites _ hr

/-! ### Waiting (rules R229 and R242) -/

/-- Settles O12: of what a step can do, only waiting is left with both ports empty. -/
theorem stepWithNothingWaitingWaits : Obligations.StepWithNothingWaitingWaits := by
  intro s hrst hcaller hdriver
  obtain ⟨hrst', -⟩ | ⟨-, -, -, h⟩ | ⟨-, w, ws, count, lead, ⟨hport, -⟩ | ⟨hport, -⟩⟩ := step_cases s
  · simp [hrst] at hrst'
  · exact h
  · simp [hcaller] at hport
  · simp [hdriver] at hport

end Sys2Proof.Machine

/-! SUPPORT. Reset, and that nothing waits for ever (rules R39, R41, R240 to R249): what a step without reset keeps, and
that a step which finds a request waiting takes one and answers it, with the ties each agent can lose counting down. -/

namespace Sys2Proof.Machine

/-! ### Reset (rules R46, R240 and R244) -/

/-- The step takes the asserted reset before it looks at a port. -/
theorem step_of_rst {s : State} (hrst : s.rst = true) : step s = .next s.afterReset := by
  rw [step, State.take, if_pos hrst]

/-- Settles O17: after the reset every register is that of `State.reset`, and so are the ports. -/
theorem resetInputClearsStateAndDropsRequests : Obligations.ResetInputClearsStateAndDropsRequests := fun s =>
  ⟨s.assertRst.afterReset, step_of_rst rfl, .refl State.reset, rfl, rfl, rfl, rfl, rfl, rfl⟩

theorem State.valid_reset (a : Agent) (r : Reg) : ({ State.reset with agent := a } : State).valid r = false := by
  cases r with
  | bt2 k => cases k <;> rfl
  | bt | cst | cst2 | lst => rfl

/-- With no register valid, the last check fails exactly for an operation that reads one. -/
theorem faultOf_reset {i : Instr} {a : Agent} (hissue : mayIssue a i = true) (hindex : indexOk i = true) :
    faultOf i { State.reset with agent := a } = if (infoOf i).reads.isSome then 4 else 0 := by
  cases hreads : (infoOf i).reads with
  | none => exact (faultOf_eq_zero_iff i _).mpr ⟨hissue, hindex, by simp [readsValid, hreads]⟩
  | some r => exact faultOf_of_not_readsValid hissue hindex (by simp [readsValid, hreads, State.valid_reset])

/-- Settles O19: the fault of an operation is that of its first failing check, which here can only be the valid bit. -/
theorem operationsRightAfterReset : Obligations.OperationsRightAfterReset := by
  refine ⟨fun i a hissue hindex => ?_, rfl, rfl, rfl, rfl⟩
  obtain ⟨t, r, hexec, hrsp, -, -, hfault⟩ := firstFailingCheckDecidesTheFault i { State.reset with agent := a }
  exact ⟨t, r, hexec, hrsp, hfault.trans (faultOf_reset hissue hindex)⟩

/-! ### No operation clears a valid bit (rule R39) -/

theorem Reg.Same.valid_eq {s t : State} {r : Reg} (h : Reg.Same s t r) : t.valid r = s.valid r := by
  cases r <;> exact congrArg Option.isSome h

theorem SameHolding.reg_same {s t : State} (h : SameHolding s t) (r : Reg) : Reg.Same s t r := by
  have ⟨hbt, _, _, hcst, hcst2, hlst⟩ := h
  cases r with
  | bt => exact hbt
  | bt2 k => exact h.bt2_eq k
  | cst => exact hcst
  | cst2 => exact hcst2
  | lst => exact hlst

/-- A register an operation writes is valid after it, and one it does not write is as it was. -/
theorem Effect.valid_mono {i : Instr} {s u : State} (h : Effect i s u) {r : Reg} (hr : s.valid r = true) :
    u.valid r = true := by
  by_cases hmem : r ∈ (infoOf i).writes
  · exact h.valid_of_mem_writes hmem
  · exact (h.reg_same hmem).valid_eq.trans hr

theorem State.valid_raise (s : State) (c : FaultCode) (r : Reg) :
    ((s.recordFault c).respond c.code).valid r = s.valid r :=
  Reg.Same.valid_eq (by simp)

theorem runWord_valid_mono {w : ReqWord} {s t : State} (h : runWord w s = .next t) {r : Reg} (hr : s.valid r = true) :
    t.valid r = true := by
  obtain ⟨i, -, hexec⟩ | rfl := runWord_next_cases h
  · obtain ⟨c, -, rfl⟩ | ⟨-, u, hu, rfl⟩ := exec_next_cases hexec
    · exact (s.valid_raise c r).trans hr
    · exact (u.valid_respond 0 r).trans (hu.valid_mono hr)
  · exact (s.valid_raise .illop r).trans hr

theorem step_valid_mono {s t : State} (hrst : s.rst = false) (h : step s = .next t) {r : Reg} (hr : s.valid r = true) :
    t.valid r = true := by
  obtain hwait | ⟨a, w, q, ⟨⟨hholding, -⟩, -⟩, hrun⟩ := step_takes hrst
  · cases hwait.symm.trans h
    exact ((SameHolding.refl s).reg_same r).valid_eq.trans hr
  · exact runWord_valid_mono (hrun.symm.trans h) ((hholding.reg_same r).valid_eq.trans hr)

/-- Settles O18: `step_valid_mono` at each of the six registers, and what `step_keepsFirstFault` says of `ERR`. -/
theorem onlyResetClearsValidBitsAndErr : Obligations.OnlyResetClearsValidBitsAndErr := by
  intro s t hrst h
  have hvalid (r : Reg) : s.valid r = true → t.valid r = true := step_valid_mono hrst h
  obtain ⟨t', h', -, herr⟩ := step_keepsFirstFault hrst
  cases h'.symm.trans h
  exact ⟨hvalid .bt, hvalid (.bt2 .s0), hvalid (.bt2 .s1), hvalid .cst, hvalid .cst2, hvalid .lst, herr⟩

/-! ### Which request a step takes, and the ties that are left to lose (rules R67 and R249) -/

theorem eq_or_eq_otherAgent (a b : Agent) : b = a ∨ b = otherAgent a := by
  cases a <;> cases b <;> simp [otherAgent]

/-- `s` once an agent's request has been taken, whatever the two fields that decide ties hold then. -/
theorem takenFrom_taking {s : State} {a : Agent} {w : ReqWord} {ws : List ReqWord} (hport : s.port a = w :: ws)
    (count : Nat) (lead : Option (Agent × Nat)) :
    TakenFrom s a w { s.taking a ws with arbCount := count, lead := lead } := by
  cases a with
  | caller => exact ⟨.refl s, rfl, rfl, fun b => by cases b with | caller => exact hport.symm | driver => rfl⟩
  | driver => exact ⟨.refl s, rfl, rfl, fun b => by cases b with | caller => rfl | driver => exact hport.symm⟩

/-- Deciding a tie changes only the two fields that decide ties. -/
theorem State.decideTie_eq (s : State) :
    s.decideTie.2 = { s with arbCount := s.decideTie.2.arbCount, lead := s.decideTie.2.lead } := by
  unfold State.decideTie
  split <;> rfl

/-- With both ports holding a request, the step takes that of the agent `State.decideTie` names. -/
theorem State.take_of_tie {s : State} {a : Agent} {w : ReqWord} {ws : List ReqWord} (hrst : s.rst = false)
    (htie : s.decideTie.1 = a) (hport : s.port a = w :: ws) (hother : s.port (otherAgent a) ≠ []) :
    s.take = .request w { s.taking a ws with arbCount := s.decideTie.2.arbCount, lead := s.decideTie.2.lead } := by
  cases a with
  | caller =>
    have hcaller : s.callerPort = w :: ws := hport
    obtain ⟨w', ws', hdriver⟩ : ∃ w' ws', s.driverPort = w' :: ws' := List.exists_cons_of_ne_nil hother
    rw [State.take, hrst, hcaller, hdriver, htie, s.decideTie_eq]
    simp [State.taking, hrst, hdriver]
  | driver =>
    have hdriver : s.driverPort = w :: ws := hport
    obtain ⟨w', ws', hcaller⟩ : ∃ w' ws', s.callerPort = w' :: ws' := List.exists_cons_of_ne_nil hother
    rw [State.take, hrst, hcaller, hdriver, htie, s.decideTie_eq]
    simp [State.taking, hrst, hcaller]

/-- Only the two fields that decide ties say how many an agent can still lose. -/
theorem State.tiesToLose_congr {s t : State} (hlead : t.lead = s.lead) (hcount : t.arbCount = s.arbCount) (a : Agent) :
    t.tiesToLose a = s.tiesToLose a := by
  rw [State.tiesToLose, State.tiesToLose, hlead, hcount]

/-- A step that finds a request of an agent waiting takes a request, and where it is the other agent's, the waiting one
has fewer ties left to lose. -/
theorem step_takes_of_waiting {s : State} {a : Agent} (hrst : s.rst = false) (hwaiting : s.port a ≠ []) :
    ∃ b w q, TakenFrom s b w q ∧ step s = runWord w q ∧ (b = a ∨ q.tiesToLose a < s.tiesToLose a) := by
  by_cases hother : s.port (otherAgent a) = []
  · obtain ⟨w, ws, hport⟩ := List.exists_cons_of_ne_nil hwaiting
    have htaking : s.taking a ws = { s.taking a ws with arbCount := s.arbCount, lead := none } := by cases a <;> rfl
    refine ⟨a, w, s.taking a ws, ?_, step_of_other_port_empty hrst hport hother, .inl rfl⟩
    rw [htaking]
    exact takenFrom_taking hport s.arbCount none
  · have hboth (b : Agent) : s.port b ≠ [] := by
      obtain rfl | rfl := eq_or_eq_otherAgent a b
      · exact hwaiting
      · exact hother
    obtain ⟨w, ws, hport⟩ := List.exists_cons_of_ne_nil (hboth s.decideTie.1)
    refine ⟨s.decideTie.1, w, _, takenFrom_taking hport s.decideTie.2.arbCount s.decideTie.2.lead, ?_, ?_⟩
    · rw [step, State.take_of_tie hrst rfl hport (hboth _)]
      rfl
    · exact s.decideTie_fair a

/-! ### Every request is answered with `RES` (rules R80 and R249) -/

/-- The last thing a request does is to answer. -/
theorem runWord_next_eq_respond {w : ReqWord} {s t : State} (h : runWord w s = .next t) :
    ∃ (u : State) (f : BitVec 3), t = u.respond f := by
  obtain ⟨i, -, hexec⟩ | rfl := runWord_next_cases h
  · obtain ⟨c, -, rfl⟩ | ⟨-, u, -, rfl⟩ := exec_next_cases hexec
    · exact ⟨_, _, rfl⟩
    · exact ⟨u, 0, rfl⟩
  · exact ⟨_, _, rfl⟩

theorem runWord_shows_res {w : ReqWord} {s t : State} (h : runWord w s = .next t) :
    ∃ r, t.rsp = some r ∧ r.res = t.res := by
  obtain ⟨u, f, rfl⟩ := runWord_next_eq_respond h
  exact ⟨_, rfl, rfl⟩

/-- How many requests wait at the two ports. -/
def State.waiting (s : State) : Nat := s.callerPort.length + s.driverPort.length

theorem State.exists_port_ne_nil {s : State} (h : s.callerPort ≠ [] ∨ s.driverPort ≠ []) : ∃ a, s.port a ≠ [] := by
  obtain h | h := h
  · exact ⟨.caller, h⟩
  · exact ⟨.driver, h⟩

theorem TakenFrom.waiting_eq {s q : State} {a : Agent} {w : ReqWord} (h : TakenFrom s a w q) :
    s.waiting = q.waiting + 1 := by
  obtain ⟨-, -, -, hports⟩ := h
  have hcaller : wordsOf .caller [(a, w)] ++ q.callerPort = s.callerPort := hports .caller
  have hdriver : wordsOf .driver [(a, w)] ++ q.driverPort = s.driverPort := hports .driver
  rw [State.waiting, State.waiting, ← hcaller, ← hdriver]
  cases a <;> simp [wordsOf] <;> omega

theorem SameInputs.waiting_eq {s t : State} (h : SameInputs s t) : t.waiting = s.waiting := by
  obtain ⟨hcaller, hdriver, -⟩ := h
  rw [State.waiting, State.waiting, hcaller, hdriver]

/-- Without reset, a step that finds a request waiting answers one, and one fewer waits. -/
theorem step_answers_of_waiting {s : State} (hrst : s.rst = false) (hwaiting : s.callerPort ≠ [] ∨ s.driverPort ≠ []) :
    ∃ t, step s = .next t ∧ t.rst = false ∧ t.waiting + 1 = s.waiting ∧ ∃ r, t.rsp = some r ∧ r.res = t.res := by
  obtain ⟨a, ha⟩ := State.exists_port_ne_nil hwaiting
  obtain ⟨b, w, q, htaken, hstep, -⟩ := step_takes_of_waiting hrst ha
  obtain ⟨t, -, hrun, -, -, hinputs⟩ := runWord_answered w q
  have hcount : t.waiting + 1 = s.waiting := by rw [hinputs.waiting_eq, htaken.waiting_eq]
  obtain ⟨-, -, hrstq, -⟩ := htaken
  exact ⟨t, hstep.trans hrun, hinputs.rst_eq.trans (hrstq.trans hrst), hcount, runWord_shows_res hrun⟩

/-- Settles O13: with `rst` asserted the step resets, and else it answers a request or finds none waiting. -/
theorem everyWaitingRequestIsAnswered : Obligations.EveryWaitingRequestIsAnswered := by
  intro s
  cases hrst : s.rst with
  | true => exact ⟨_, step_of_rst hrst, nofun⟩
  | false =>
    by_cases hwaiting : s.callerPort ≠ [] ∨ s.driverPort ≠ []
    · obtain ⟨t, hstep, -, hcount, r, hrsp, hres⟩ := step_answers_of_waiting hrst hwaiting
      exact ⟨t, hstep, fun _ _ => ⟨r, hrsp, hres, hcount⟩⟩
    · obtain ⟨t, hstep, -⟩ := step_keepsFirstFault hrst
      exact ⟨t, hstep, fun _ hwaiting' => absurd hwaiting' hwaiting⟩

theorem State.waiting_eq_zero_iff (s : State) : s.waiting = 0 ↔ s.callerPort = [] ∧ s.driverPort = [] := by
  simp [State.waiting]

/-- Settles O14, by induction on the number of requests waiting: each step answers one of them. -/
theorem waitingRequestsDrain : Obligations.WaitingRequestsDrain := by
  suffices hdrain : ∀ (n : Nat) (s : State), s.rst = false → s.waiting = n →
      ∃ t, Sys2Proof.core.run n s = .next t ∧ t.callerPort = [] ∧ t.driverPort = [] from
    fun s hrst => hdrain s.waiting s hrst rfl
  intro n
  induction n with
  | zero => exact fun s _ hzero => ⟨s, rfl, s.waiting_eq_zero_iff.mp hzero⟩
  | succ n ih =>
    intro s hrst hcount
    have hwaiting : s.callerPort ≠ [] ∨ s.driverPort ≠ [] := by
      rw [← not_and_or, ← s.waiting_eq_zero_iff]
      omega
    obtain ⟨u, hstep, hrst', hcount', -⟩ := step_answers_of_waiting hrst hwaiting
    obtain ⟨t, hrun, hempty⟩ := ih u hrst' (by omega)
    exact ⟨t, (core_run_succ hstep).trans hrun, hempty⟩

/-! ### No agent waits for ever (rule R249) -/

/-- An operation reads and writes neither of the two fields that decide ties. -/
theorem runWord_tiesToLose {w : ReqWord} {s t : State} (h : runWord w s = .next t) (a : Agent) :
    t.tiesToLose a = s.tiesToLose a := by
  have henv : resultInEnvOf s (runWord w s) = runWord w s := (runWord_inEnvOf w s s).symm
  rw [h] at henv
  rw [← Host.Outcome.next.inj henv]
  exact State.tiesToLose_congr rfl rfl a

theorem State.presentAll_tiesToLose (s : State) (qs : List (Agent × ReqWord)) (a : Agent) :
    (s.presentAll qs).tiesToLose a = s.tiesToLose a := by
  induction qs generalizing s with
  | nil => rfl
  | cons q qs ih =>
    obtain ⟨b, w⟩ := q
    rw [s.presentAll_cons, ih]
    cases b <;> rfl

/-- A step that finds a request of an agent waiting takes the oldest of them, or leaves them all with fewer
ties to lose. -/
theorem step_progress {s : State} {a : Agent} (hrst : s.rst = false) (hwaiting : s.port a ≠ []) :
    ∃ t, step s = .next t ∧ t.rst = false ∧
      ((t.port a).length + 1 = (s.port a).length ∨
        (t.port a).length = (s.port a).length ∧ t.tiesToLose a < s.tiesToLose a) := by
  obtain ⟨b, w, q, ⟨-, -, hrstq, hports⟩, hstep, hfair⟩ := step_takes_of_waiting hrst hwaiting
  obtain ⟨t, -, hrun, -, -, hinputs⟩ := runWord_answered w q
  refine ⟨t, hstep.trans hrun, hinputs.rst_eq.trans (hrstq.trans hrst), ?_⟩
  rw [runWord_tiesToLose hrun, hinputs.port_eq, ← hports a]
  by_cases hb : b = a
  · exact .inl (by simp [wordsOf, hb, Nat.add_comm])
  · exact .inr ⟨by simp [wordsOf, hb], hfair.resolve_left hb⟩

/-- In some run from `s` with the requests of `presented` coming in before its steps, at least `k` requests of the agent
are taken: what is left at its port and `k` more are at most what it had waiting and what it presented. -/
def TakesAtLast (a : Agent) (k : Nat) (s : State) (presented : Nat → List (Agent × ReqWord)) : Prop :=
  ∃ n t, runPresenting ((List.range n).map presented) s = .next t ∧
    (t.port a).length + k ≤ (s.port a).length + (wordsOf a ((List.range n).map presented).flatten).length

/-- What a step leaves to be taken is taken later. -/
theorem TakesAtLast.of_step {a : Agent} {j k : Nat} {s u : State} {presented : Nat → List (Agent × ReqWord)}
    (hstep : step (s.presentAll (presented 0)) = .next u) (h : TakesAtLast a j u (presented ∘ Nat.succ))
    (hk : (u.port a).length + k ≤ ((s.presentAll (presented 0)).port a).length + j) : TakesAtLast a k s presented := by
  obtain ⟨n, t, hrun, hle⟩ := h
  have hlist : (List.range (n + 1)).map presented = presented 0 :: (List.range n).map (presented ∘ Nat.succ) := by
    rw [List.range_succ_eq_map, List.map_cons, List.map_map]
  refine ⟨n + 1, t, ?_, ?_⟩
  · rw [hlist, runPresenting_cons_of_next hstep, hrun]
  · rw [s.port_presentAll, List.length_append] at hk
    rw [hlist, List.flatten_cons, wordsOf_append, List.length_append]
    omega

/-- All requests of an agent that wait are taken at last: by induction on their number, and for each of them on the ties
it can still lose. -/
theorem takesAtLast_of_le (a : Agent) (k : Nat) (s : State) (presented : Nat → List (Agent × ReqWord))
    (hrst : s.rst = false) (hk : k ≤ (s.port a).length) : TakesAtLast a k s presented := by
  induction k generalizing s presented with
  | zero => exact ⟨0, s, rfl, Nat.le_add_right _ _⟩
  | succ k ihk =>
    induction hties : s.tiesToLose a using Nat.strong_induction_on generalizing s presented with
    | _ ties ihties =>
      have hmore : k + 1 ≤ ((s.presentAll (presented 0)).port a).length := by
        rw [s.port_presentAll, List.length_append]
        omega
      have hwaiting : (s.presentAll (presented 0)).port a ≠ [] := List.ne_nil_of_length_pos (Nat.zero_lt_of_lt hmore)
      obtain ⟨u, hstep, hrstu, htaken | ⟨hsame, hties'⟩⟩ := step_progress ((s.presentAll_rst _).trans hrst) hwaiting
      · exact .of_step hstep (ihk u _ hrstu (by omega)) (by omega)
      · rw [s.presentAll_tiesToLose, hties] at hties'
        exact .of_step hstep (ihties _ hties' u _ hrstu (by omega) rfl) (by omega)

/-- Settles O60: any run is a serial run of a merge of what has been taken, and in a long enough run that is at least
what the agent had waiting. -/
theorem everyPresentedRequestIsTaken : Obligations.EveryPresentedRequestIsTaken := by
  intro presented s a hrst
  obtain ⟨n, t, hrun, htaken⟩ := takesAtLast_of_le a (s.port a).length s presented hrst le_rfl
  obtain ⟨merge, t', hrun', hserial, hports⟩ := runPresenting_runsSerially ((List.range n).map presented) s hrst
  cases hrun.symm.trans hrun'
  refine ⟨n, merge, t, hrun, hserial, hports, ?_⟩
  have hlength := congrArg List.length (hports a)
  rw [List.length_append, List.length_append] at hlength
  exact List.prefix_of_prefix_length_le (hports a ▸ List.prefix_append _ _) (List.prefix_append _ (t.port a)) (by omega)

end Sys2Proof.Machine
